-- ==== Sys2Proof/Word.lean ====
section
/-!
DEFINITION. The words of the RCU: the byte, and the 64-bit command and response words (30_encoding.md R50, R54;
00_scope.md R7).
-/
namespace Sys2Proof

/-- A byte as it crosses the bus port (00_scope.md R7). -/
abbrev Byte := BitVec 8

/-- The command word `CW` (30_encoding.md R50). -/
abbrev CommandWord := BitVec 64

/-- The response word `RW` (30_encoding.md R54). -/
abbrev ResponseWord := BitVec 64

end Sys2Proof
end

