-- ==== Sys2Proof/Syntax.lean ====
section
/-!
DEFINITION. The 17 commands of the RCU (30_encoding.md R52, spec/opcode_table.json), one constructor per row, with the
operands the row uses. An operand is an unsigned field used as it stands (R51), so it is a natural number; its
field's width is checked by `Instr.wellFormed` (log 18). A field that a row does not use is ignored (R56) and is no operand.
-/
namespace Sys2Proof

inductive Instr where
  /-- DAC8.SETALLGAIN gain (41_dac8.md R90) -/
  | dac8SetAllGain (gain : Nat)
  /-- DAC8.SETSINGLEGAIN channel, gain (41_dac8.md R91) -/
  | dac8SetSingleGain (channel gain : Nat)
  /-- DAC8.OUTPUTVOLTDC channel, volt (41_dac8.md R92); volt is raw UQ16.16 millivolts -/
  | dac8OutputVoltDc (channel volt : Nat)
  /-- DAC8.OUTPUTRESET (41_dac8.md R93) -/
  | dac8OutputReset
  /-- DAC2.SETALLGAIN gain (42_dac2.md R100) -/
  | dac2SetAllGain (gain : Nat)
  /-- DAC2.SETSINGLEGAIN gain (42_dac2.md R101) -/
  | dac2SetSingleGain (gain : Nat)
  /-- DAC2.OUTPUTVOLTDC channel, volt (42_dac2.md R102); volt is raw UQ16.16 millivolts -/
  | dac2OutputVoltDc (channel volt : Nat)
  /-- DAC2.OUTPUTRESET (42_dac2.md R103) -/
  | dac2OutputReset
  /-- ADC.READ (43_adc.md R110) -/
  | adcRead
  /-- TMP.READ registerAddress, registerType (44_temp.md R117) -/
  | tmpRead (registerAddress registerType : Nat)
  /-- TMP.READOBJC (44_temp.md R120) -/
  | tmpReadObjC
  /-- TMP.READOBJF (44_temp.md R121) -/
  | tmpReadObjF
  /-- TMP.READAMBC (44_temp.md R122) -/
  | tmpReadAmbC
  /-- TMP.READAMBF (44_temp.md R123) -/
  | tmpReadAmbF
  /-- TMP.GETOBJ (44_temp.md R124) -/
  | tmpGetObj
  /-- TMP.READSTART (44_temp.md R126) -/
  | tmpReadStart
  /-- TMP.READSTOP (44_temp.md R127) -/
  | tmpReadStop
deriving DecidableEq, Repr

/-- The sensor's two register banks (20_memory.md R37). -/
inductive RegType where
  | ram
  | eeprom
deriving DecidableEq, Repr

end Sys2Proof
end

