-- ==== Sys2Proof/WellFormed.lean ====
section
/-!
DEFINITION. Well-formed commands: every operand fits the field that carries it (30_encoding.md R50, R51). An operand
that fits its field and is out of the command's accepted range is well formed: the command is presented and aborts.
-/
namespace Sys2Proof

/-- The operand fits the eight bits of field A or B (30_encoding.md R50). -/
def fitsByte (n : Nat) : Bool := decide (n < 256)

/-- The operand fits the 32 bits of field V (30_encoding.md R50). -/
def fitsVolt (n : Nat) : Bool := decide (n < 4294967296)

/-- Every operand fits its field. -/
def Instr.wellFormed (i : Instr) : Bool :=
  match i with
  | .dac8SetAllGain gain => fitsByte gain
  | .dac8SetSingleGain channel gain => fitsByte channel && fitsByte gain
  | .dac8OutputVoltDc channel volt => fitsByte channel && fitsVolt volt
  | .dac8OutputReset => true
  | .dac2SetAllGain gain => fitsByte gain
  | .dac2SetSingleGain gain => fitsByte gain
  | .dac2OutputVoltDc channel volt => fitsByte channel && fitsVolt volt
  | .dac2OutputReset => true
  | .adcRead => true
  | .tmpRead registerAddress registerType => fitsByte registerAddress && fitsByte registerType
  | .tmpReadObjC => true
  | .tmpReadObjF => true
  | .tmpReadAmbC => true
  | .tmpReadAmbF => true
  | .tmpGetObj => true
  | .tmpReadStart => true
  | .tmpReadStop => true

end Sys2Proof
end

