-- ==== Sys2Proof/Decode.lean ====
section
/-!
DEFINITION. The decoder, total on every 64-bit word and rejecting by name (30_encoding.md R50 to R53, R56), and after
it the encoder, written from the same table. One command is one 64-bit word (R50), so there is nothing to lay out.
-/
namespace Sys2Proof

/-- Field OPC, bits 63:56 (30_encoding.md R50). -/
def fieldOpc (w : CommandWord) : Byte := w.extractLsb' 56 8

/-- Field A, bits 55:48 (30_encoding.md R50). -/
def fieldA (w : CommandWord) : Byte := w.extractLsb' 48 8

/-- Field B, bits 47:40 (30_encoding.md R50). -/
def fieldB (w : CommandWord) : Byte := w.extractLsb' 40 8

/-- Field Z, bits 39:32 (30_encoding.md R50). -/
def fieldZ (w : CommandWord) : Byte := w.extractLsb' 32 8

/-- Field V, bits 31:0 (30_encoding.md R50). -/
def fieldV (w : CommandWord) : BitVec 32 := w.extractLsb' 0 32

/-- Why a word is illegal (30_encoding.md R53, R56). -/
inductive DecodeError where
  /-- The reserved field Z is not zero. -/
  | reservedField (z : Byte)
  /-- OPC is none of the 17 values of R52. -/
  | unknownOpcode (opc : Byte)
deriving DecidableEq, Repr

/-- The row of 30_encoding.md R52 that an operation code selects, its operands taken from the fields A, B and V. -/
def decodeRow (opc : Byte) (a b v : Nat) : Except DecodeError Instr :=
  match opc with
  | 0x10#8 => .ok (.dac8SetAllGain b)
  | 0x11#8 => .ok (.dac8SetSingleGain a b)
  | 0x12#8 => .ok (.dac8OutputVoltDc a v)
  | 0x13#8 => .ok .dac8OutputReset
  | 0x20#8 => .ok (.dac2SetAllGain b)
  | 0x21#8 => .ok (.dac2SetSingleGain b)
  | 0x22#8 => .ok (.dac2OutputVoltDc a v)
  | 0x23#8 => .ok .dac2OutputReset
  | 0x30#8 => .ok .adcRead
  | 0x40#8 => .ok (.tmpRead a b)
  | 0x41#8 => .ok .tmpReadObjC
  | 0x42#8 => .ok .tmpReadObjF
  | 0x43#8 => .ok .tmpReadAmbC
  | 0x44#8 => .ok .tmpReadAmbF
  | 0x45#8 => .ok .tmpGetObj
  | 0x46#8 => .ok .tmpReadStart
  | 0x47#8 => .ok .tmpReadStop
  | _ => .error (.unknownOpcode opc)

/-- Decoding (30_encoding.md R53): a nonzero Z is illegal, then an OPC outside the 17 values is. -/
def decode (w : CommandWord) : Except DecodeError Instr :=
  if fieldZ w = 0#8 then
    decodeRow (fieldOpc w) (fieldA w).toNat (fieldB w).toNat (fieldV w).toNat
  else
    .error (.reservedField (fieldZ w))

/-- A command word from its fields, Z being zero (30_encoding.md R50). -/
def commandWord (opc a b : Byte) (v : BitVec 32) : CommandWord := opc ++ a ++ b ++ 0#8 ++ v

/-- The operation code of each command (30_encoding.md R52). -/
def Instr.opcode (i : Instr) : Byte :=
  match i with
  | .dac8SetAllGain _ => 0x10#8
  | .dac8SetSingleGain _ _ => 0x11#8
  | .dac8OutputVoltDc _ _ => 0x12#8
  | .dac8OutputReset => 0x13#8
  | .dac2SetAllGain _ => 0x20#8
  | .dac2SetSingleGain _ => 0x21#8
  | .dac2OutputVoltDc _ _ => 0x22#8
  | .dac2OutputReset => 0x23#8
  | .adcRead => 0x30#8
  | .tmpRead _ _ => 0x40#8
  | .tmpReadObjC => 0x41#8
  | .tmpReadObjF => 0x42#8
  | .tmpReadAmbC => 0x43#8
  | .tmpReadAmbF => 0x44#8
  | .tmpGetObj => 0x45#8
  | .tmpReadStart => 0x46#8
  | .tmpReadStop => 0x47#8

/-- What the command puts in field A (30_encoding.md R52); zero where it uses no A (R57). -/
def Instr.operandA (i : Instr) : Nat :=
  match i with
  | .dac8SetSingleGain channel _ => channel
  | .dac8OutputVoltDc channel _ => channel
  | .dac2OutputVoltDc channel _ => channel
  | .tmpRead registerAddress _ => registerAddress
  | .dac8SetAllGain _ | .dac8OutputReset | .dac2SetAllGain _ | .dac2SetSingleGain _ | .dac2OutputReset | .adcRead
  | .tmpReadObjC | .tmpReadObjF | .tmpReadAmbC | .tmpReadAmbF | .tmpGetObj | .tmpReadStart | .tmpReadStop => 0

/-- What the command puts in field B (30_encoding.md R52); zero where it uses no B (R57). -/
def Instr.operandB (i : Instr) : Nat :=
  match i with
  | .dac8SetAllGain gain => gain
  | .dac8SetSingleGain _ gain => gain
  | .dac2SetAllGain gain => gain
  | .dac2SetSingleGain gain => gain
  | .tmpRead _ registerType => registerType
  | .dac8OutputVoltDc _ _ | .dac8OutputReset | .dac2OutputVoltDc _ _ | .dac2OutputReset | .adcRead
  | .tmpReadObjC | .tmpReadObjF | .tmpReadAmbC | .tmpReadAmbF | .tmpGetObj | .tmpReadStart | .tmpReadStop => 0

/-- What the command puts in field V (30_encoding.md R52); zero where it uses no V (R57). -/
def Instr.operandV (i : Instr) : Nat :=
  match i with
  | .dac8OutputVoltDc _ volt => volt
  | .dac2OutputVoltDc _ volt => volt
  | .dac8SetAllGain _ | .dac8SetSingleGain _ _ | .dac8OutputReset | .dac2SetAllGain _ | .dac2SetSingleGain _
  | .dac2OutputReset | .adcRead | .tmpRead _ _
  | .tmpReadObjC | .tmpReadObjF | .tmpReadAmbC | .tmpReadAmbF | .tmpGetObj | .tmpReadStart | .tmpReadStop => 0

/-- The word of a well-formed command, zero in every field it does not use (30_encoding.md R52, R57). -/
def encode (i : Instr) : CommandWord :=
  commandWord i.opcode (BitVec.ofNat 8 i.operandA) (BitVec.ofNat 8 i.operandB) (BitVec.ofNat 32 i.operandV)

/-- The instruction the decoder reads from the word whose bits are `w`, every bit from `nbits` up being zero. A
command has one length, 64 bits (30_encoding.md R50); more bits than that are no command (log 16). -/
def decodeTableWord (nbits w : Nat) : Option Instr :=
  if nbits ≤ 64 then (decode (BitVec.ofNat 64 (w % 2 ^ nbits))).toOption else none

end Sys2Proof
end

