-- ==== Sys2Proof/Machine/Codec.lean ====
section
/-!
DEFINITION. The codec functions (40_codec_functions.md; 20_memory.md R37, R38): total functions over unbounded
integers that read no state and issue no transaction. Division is exact floor division (R85).
-/
namespace Sys2Proof.Machine

/-- `DACCODE8(Vr, Rr, g)` (40_codec_functions.md R70). -/
def dacCode8 (vr rr g : Nat) : Nat :=
  let q := vr * 4096 * g / rr
  if q = 4096 then 4095 else q

/-- `DACCODE2(Vr, Rr, g)` (40_codec_functions.md R72). -/
def dacCode2 (vr rr g : Nat) : Nat := vr * 255 * g / rr

/-- `hi(c)` (40_codec_functions.md R74). -/
def hi (c : Nat) : Byte := BitVec.ofNat 8 ((c >>> 8) &&& 0xFF)

/-- `lo(c)` (40_codec_functions.md R74). -/
def lo (c : Nat) : Byte := BitVec.ofNat 8 (c &&& 0xFF)

/-- `GAINCMD8_ALL(g)` with the gain-write opcode `opc` (40_codec_functions.md R75). -/
def gainCmd8All (opc : Byte) (g : Nat) : Byte := if g = 2 then opc ||| 0x0F#8 else opc

/-- `GAINCMD8_SINGLE(ch, g)` with the gain-write opcode `opc`, for channels 0 to 3 (40_codec_functions.md R76). -/
def gainCmd8Single (opc : Byte) (ch g : Nat) : Byte := opc ||| BitVec.ofNat 8 ((g - 1) <<< (3 - ch))

/-- `GAINVAL2(g)` (40_codec_functions.md R77). -/
def gainVal2 (g : Nat) : Nat := if g = 2 then 0xFF else 0x00

/-- `FIRST2(command, address)` (20_memory.md R38). -/
def first2 (command address : Nat) : Byte := BitVec.ofNat 8 (((command <<< 1) ||| (address <<< 3)) &&& 0xFF)

/-- `TBANK(a, type)` (20_memory.md R37). -/
def tbank (a : Nat) (type : RegType) : Byte :=
  match type with
  | .ram => BitVec.ofNat 8 (a &&& 0x1F)
  | .eeprom => BitVec.ofNat 8 ((a &&& 0x1F) ||| 0x20)

/-- `ADCCODE(b0, b1)`, b0 received first (40_codec_functions.md R79). -/
def adcCode (b0 b1 : Byte) : Nat := (b0.toNat <<< 8) ||| b1.toNat

/-- `ADCVOLT(code, Rr)`, raw UQ32.16 millivolts (40_codec_functions.md R79). -/
def adcVolt (code rr : Nat) : Nat := code * rr / 4095

/-- `RAW16(low, high)`, low received first (40_codec_functions.md R81). -/
def raw16 (low high : Byte) : Nat := (high.toNat <<< 8) ||| low.toNat

/-- `CELSIUS(raw)` in thousandths of a degree (40_codec_functions.md R81). -/
def celsius (raw : Nat) : Int := 20 * (raw : Int) - 273150

/-- `CORRECT(t)`, the three tiers in order, first match wins, strict (40_codec_functions.md R82; 10_state.md R18). -/
def correct (t : Int) : Int :=
  if t > 82000 then t - 6000
  else if t > 60000 then t - 4500
  else if t > 40000 then t - 2000
  else t

/-- `C2F(t)`: the division by 5 rounds toward minus infinity (40_codec_functions.md R83). -/
def c2f (t : Int) : Int := (9 * t) / 5 + 32000

/-- `SENTINEL` in thousandths of a degree (40_codec_functions.md R84). -/
def sentinel : Int := -999000

/-- `zext_48` of a voltage (00_scope.md R7). -/
def zext48 (v : Nat) : BitVec 48 := BitVec.ofNat 48 v

/-- `sext_48` of an S32 temperature (00_scope.md R7; log 19). -/
def sext48 (t : Int) : BitVec 48 := (BitVec.ofInt 32 t).signExtend 48

end Sys2Proof.Machine
end

