-- ==== Sys2Proof/Machine/Bus.lean ====
section
/-!
DEFINITION. What crosses the bus port: transactions and the transport's answers (20_memory.md R30 to R34).
-/
namespace Sys2Proof

/-- The three kinds of transaction (20_memory.md R30). -/
inductive TransactionKind where
  | write
  | read
  | writeRead
deriving DecidableEq, Repr

/-- One bus transaction (20_memory.md R30): `tx` is empty for a read, `rdlen` is 0 for a write. The address is seven
bits wide; what the transport makes of it on the wire is outside the RCU. -/
structure Transaction where
  kind  : TransactionKind
  addr  : BitVec 7
  tx    : List Byte
  rdlen : Nat
deriving DecidableEq, Repr

/-- What the transport does with one transaction: answers with bytes, answers with a failure (20_memory.md R30), or
never answers (70_reset_and_hazards.md R165). -/
inductive Answer where
  | ok (rx : List Byte)
  | fail
  | never
deriving DecidableEq, Repr, Inhabited

/-- The answer as the port's contract takes it: `Ok` carries exactly the bytes asked for, and a transport that would
return another number of them reports `Fail` instead (20_memory.md R34; 93_implementation_defined.md U12; log 4). -/
def Answer.contract (rdlen : Nat) (a : Answer) : Answer :=
  match a with
  | .ok rx => if rx.length = rdlen then .ok rx else .fail
  | .fail => .fail
  | .never => .never

end Sys2Proof
end

