-- ==== Sys2Proof/Config.lean ====
section
/-!
DEFINITION. The configuration record, fixed at reset (10_state.md R10 to R12), the names of the checks that make it
well formed, the spec's optional switches, and the free value the transport's unlisted answers take.
-/
namespace Sys2Proof

/-- The optional switches the spec lets a cautious model take (92_eei_decisions.md, summary; log 10). Each default is
the behaviour that the numbered rules state. -/
structure Variants where
  /-- `SINGLEGAIN_UPDATES_SHADOW` (D17): DAC8.SETSINGLEGAIN writes the shadow gain. -/
  singleGainUpdatesShadow : Bool := true
  /-- `GAIN_COMMIT_BEFORE_WRITE` (D18): a gain command writes the shadow gain before its transaction is issued. -/
  gainCommitBeforeWrite : Bool := true
  /-- `F_SPECIAL_CASES_SENTINEL` (93_implementation_defined.md U4): a Fahrenheit read returns the sentinel itself. -/
  fSpecialCasesSentinel : Bool := false
deriving DecidableEq, Repr

/-- The switches as the numbered rules have them (R91, R133, R121). -/
def Variants.documented : Variants := {}

/-- The configuration (10_state.md R10, R11, R12). Reference voltages are raw UQ16.16 millivolts. -/
structure Config where
  dac8Addr    : Nat
  dac2Addr    : Nat
  adcAddr     : Nat
  tmpAddr     : Nat
  dac8Vref    : BitVec 32
  dac2Vref    : BitVec 32
  adcVref     : BitVec 32
  dac8Gain0   : Byte
  dac2Gain0   : Byte
  dac8ChCmd   : Vector Byte 8
  dac8GainOpc : Byte
  dac2CmdGain : Nat
  dac2RegGain : Nat
  dac2CmdOut  : Nat
  tmpRegObj   : Byte
  tmpRegAmb   : Byte
  variants    : Variants
deriving DecidableEq, Repr

/-- The checks of 10_state.md R12, each with a name of its own. -/
inductive ConfigCheck where
  /-- DAC8_ADDR is above 127. -/
  | dac8Addr
  /-- DAC2_ADDR is above 127. -/
  | dac2Addr
  /-- ADC_ADDR is above 127. -/
  | adcAddr
  /-- TMP_ADDR is above 127. -/
  | tmpAddr
  /-- DAC8_VREF is zero. -/
  | dac8Vref
  /-- DAC2_VREF is zero. -/
  | dac2Vref
  /-- DAC8_GAIN0 is neither 1 nor 2. -/
  | dac8Gain0
  /-- DAC2_GAIN0 is neither 1 nor 2. -/
  | dac2Gain0
  /-- DAC8_GAIN_OPC has a low four bit set. -/
  | dac8GainOpc
  /-- (DAC2_CMD_GAIN << 1) | (DAC2_REG_GAIN << 3) reaches 256. -/
  | dac2GainFirst
  /-- (DAC2_CMD_OUT << 1) | (1 << 3) reaches 256. -/
  | dac2OutFirst
deriving DecidableEq, Repr

/-- The configuration that `State.reset` holds: the documented defaults of 10_state.md R11 and R12 (5000 mV, gain 1)
and, for the OPEN parameters, the spec's own illustrative configuration EX1 (95_test_vectors.md section 1).
DESIGN CHOICE, unsafe: EX1 is not a claim about any device (log 2). -/
def Config.ex1 : Config where
  dac8Addr    := 0x10
  dac2Addr    := 0x11
  adcAddr     := 0x12
  tmpAddr     := 0x13
  dac8Vref    := 0x13880000#32
  dac2Vref    := 0x13880000#32
  adcVref     := 0x13880000#32
  dac8Gain0   := 1#8
  dac2Gain0   := 1#8
  dac8ChCmd   := #v[0x30#8, 0x31#8, 0x32#8, 0x33#8, 0x34#8, 0x35#8, 0x36#8, 0x37#8]
  dac8GainOpc := 0xA0#8
  dac2CmdGain := 1
  dac2RegGain := 2
  dac2CmdOut  := 3
  tmpRegObj   := 0x07#8
  tmpRegAmb   := 0x06#8
  variants    := Variants.documented

/-- The free value: what the transport does with the transaction of a given number when State lists no answer for it
(20_memory.md R34, 93_implementation_defined.md U8). Nothing is known of it (log 3). -/
opaque Config.freeAnswer : Nat → Answer

end Sys2Proof
end

