-- ==== Sys2Proof/Machine/State.lean ====
section
/-!
DEFINITION. The state of the RCU as plain data (10_state.md R13 to R15, R19 to R23), the reasons a step can stop, and
the state after reset (70_reset_and_hazards.md R150).
-/
namespace Sys2Proof.Machine

/-- One event the host presents: a command word (00_scope.md R6), or a reset with its configuration
(70_reset_and_hazards.md R150). No other event changes state (R6). -/
inductive Input where
  | command (cw : CommandWord)
  | reset (cfg : Config)
deriving DecidableEq, Repr

/-- The RCU. The first block is the spec's: the configuration (10_state.md R10 to R12), the four registers (R21) and
the in-flight transaction (R19). The second block is the model's own: the inputs and outputs of the step function
of 00_scope.md R6, which the spec says are no state of the RCU (R23; logs 1, 3, 6, 7). -/
structure State where
  /-- The configuration, fixed at reset (10_state.md R10 to R12). -/
  cfg        : Config
  /-- S.DAC8_GAIN, register 0 (10_state.md R13). -/
  dac8Gain   : Byte
  /-- S.DAC2_GAIN, register 1 (10_state.md R13). -/
  dac2Gain   : Byte
  /-- S.POLL_ACTIVE, register 2 (10_state.md R14). -/
  pollActive : BitVec 1
  /-- S.ERRSTAT, register 3 (10_state.md R15). -/
  errstat    : Byte
  /-- The transaction in flight; between commands there is none (10_state.md R19) unless the transport never answers
  it (70_reset_and_hazards.md R165; log 5). -/
  inFlight   : Option Transaction
  /-- The events the host has yet to present, in order (log 6). -/
  inputs     : List Input
  /-- The transport's answers to come, in issue order (20_memory.md R34; log 3). -/
  answers    : List Answer
  /-- How many transactions were issued: the number of the next free answer (log 3). -/
  busCount   : Nat
  /-- The transactions issued since reset, in issue order (20_memory.md R35; log 7). -/
  trace      : List Transaction
  /-- The response words delivered since reset, in order (30_encoding.md R54; log 7). -/
  responses  : List ResponseWord
deriving DecidableEq, Repr

/-- Why the machine is stuck. -/
inductive Fault where
  /-- Raised by `step`, in no command's meaning: the transport never answered the transaction in flight, so the command
  never completes and no other can begin (70_reset_and_hazards.md R165; 93_implementation_defined.md U3). Safe: the
  hardware does nothing either (log 5). -/
  | transportNeverAnswers
deriving DecidableEq, Repr

/-- Why the model has no behaviour. -/
inductive Refusal where
  /-- Raised by `exec` alone, for an instruction whose meaning is not written; in this model, none. Safe. -/
  | notModelled (mnemonic : String)
  /-- Raised by `step` when the configuration in force, or the one a reset presents, is ill formed: the model refuses
  it by the name of the failed check (10_state.md R12; 93_implementation_defined.md U2). Safe (log 9). -/
  | badConfig (failed : ConfigCheck)
deriving DecidableEq, Repr

/-- The registers after reset with a configuration (70_reset_and_hazards.md R150), nothing in flight (10_state.md
R22), the trace empty and no response produced, and no input or answer listed. -/
def State.resetWith (c : Config) : State where
  cfg        := c
  dac8Gain   := c.dac8Gain0
  dac2Gain   := c.dac2Gain0
  pollActive := 0#1
  errstat    := 0x00#8
  inFlight   := none
  inputs     := []
  answers    := []
  busCount   := 0
  trace      := []
  responses  := []

/-- The machine right after reset, with the documented defaults and the named values of the OPEN parameters
(70_reset_and_hazards.md R150; log 2). -/
def State.reset : State := State.resetWith Config.ex1

end Sys2Proof.Machine
end

