-- ==== Sys2Proof/Machine/Flags.lean ====
section
/-!
DEFINITION. The status codes (60_exceptions.md R130), the bits of ERRSTAT they set (10_state.md R15), and the response
word that reports them (30_encoding.md R54).
-/
namespace Sys2Proof.Machine

/-- The eight values of STATUS (60_exceptions.md R130). -/
inductive Status where
  | ok
  | illegal
  | channel
  | gain
  | volt
  | regType
  | chanLimit
  | transport
deriving DecidableEq, Repr

/-- The code of a status (60_exceptions.md R130). -/
def Status.code (st : Status) : Byte :=
  match st with
  | .ok => 0x00#8
  | .illegal => 0x01#8
  | .channel => 0x02#8
  | .gain => 0x03#8
  | .volt => 0x04#8
  | .regType => 0x05#8
  | .chanLimit => 0x06#8
  | .transport => 0x07#8

/-- ERRSTAT.ILL, bit 0 (10_state.md R15). -/
def bitIll : Byte := 0x01#8

/-- ERRSTAT.PRE, bit 1 (10_state.md R15). -/
def bitPre : Byte := 0x02#8

/-- ERRSTAT.XPORT, bit 2 (10_state.md R15). -/
def bitXport : Byte := 0x04#8

/-- ERRSTAT.SENT, bit 3 (10_state.md R15). -/
def bitSent : Byte := 0x08#8

/-- The ERRSTAT bit that a command ending with a status sets (10_state.md R15). -/
def Status.errBit (st : Status) : Byte :=
  match st with
  | .ok => 0x00#8
  | .illegal => bitIll
  | .channel => bitPre
  | .gain => bitPre
  | .volt => bitPre
  | .regType => bitPre
  | .chanLimit => bitPre
  | .transport => bitXport

/-- The response word: STATUS in bits 63:56, zero in 55:48, VALUE in 47:0 (30_encoding.md R54). -/
def responseWord (st : Status) (value : BitVec 48) : ResponseWord := st.code ++ 0#8 ++ value

/-- STATUS of a response word (30_encoding.md R54). -/
def responseStatus (rw : ResponseWord) : Byte := rw.extractLsb' 56 8

/-- VALUE of a response word (30_encoding.md R54). -/
def responseValue (rw : ResponseWord) : BitVec 48 := rw.extractLsb' 0 48

/-- Sets bits of ERRSTAT; a set bit stays set (10_state.md R15). -/
def State.setErr (bits : Byte) (s : State) : State := { s with errstat := s.errstat ||| bits }

end Sys2Proof.Machine
end

