-- ==== Sys2Proof/Machine/Operands.lean ====
section
/-!
DEFINITION. The operand checks (30_encoding.md R51; 60_exceptions.md R130, R136), each answering the status of its
violation, and the checks that make a configuration well formed (10_state.md R12).
-/
namespace Sys2Proof.Machine

/-- The status of a violated check, none where the check holds. -/
def violation (bad : Bool) (st : Status) : Option Status := if bad then some st else none

/-- The channel is at most `last` (30_encoding.md R51). -/
def checkChannel (channel last : Nat) : Option Status := violation (decide (channel > last)) .channel

/-- The gain is 1 or 2 (30_encoding.md R51). -/
def checkGain (gain : Nat) : Option Status := violation (decide (gain ≠ 1 ∧ gain ≠ 2)) .gain

/-- The channel has a bit placement in the single-channel gain write: 3 - channel is not negative (41_dac8.md R91). -/
def checkChanLimit (channel : Nat) : Option Status := violation (decide (channel > 3)) .chanLimit

/-- The raw voltage is at most the raw reference, both ends included (30_encoding.md R51). -/
def checkVolt (volt : Nat) (vref : BitVec 32) : Option Status := violation (decide (volt > vref.toNat)) .volt

/-- The register type is 0 (ram) or 1 (eeprom) (30_encoding.md R51). -/
def checkRegType (registerType : Nat) : Option Status := violation (decide (registerType > 1)) .regType

/-- The first violated check of a list in the order of checking (60_exceptions.md R136). -/
def firstViolation (checks : List (Option Status)) : Option Status := checks.findSome? id

/-- The register type an accepted operand names (44_temp.md R117). -/
def regTypeOf (registerType : Nat) : RegType := if registerType = 0 then .ram else .eeprom

/-- The entry of the channel command table (10_state.md R18); the channel was checked to be at most 7. -/
def channelCommand (c : Config) (channel : Nat) : Byte := (c.dac8ChCmd[channel]?).getD 0#8

end Sys2Proof.Machine

namespace Sys2Proof

/-- The check's name where it fails. -/
def configFailure (bad : Bool) (name : ConfigCheck) : Option ConfigCheck := if bad then some name else none

/-- The first failed check of a configuration, none where it is well formed (10_state.md R12). -/
def Config.failedCheck (c : Config) : Option ConfigCheck :=
  List.findSome? id
    [ configFailure (decide (c.dac8Addr > 127)) .dac8Addr,
      configFailure (decide (c.dac2Addr > 127)) .dac2Addr,
      configFailure (decide (c.adcAddr > 127)) .adcAddr,
      configFailure (decide (c.tmpAddr > 127)) .tmpAddr,
      configFailure (decide (c.dac8Vref = 0#32)) .dac8Vref,
      configFailure (decide (c.dac2Vref = 0#32)) .dac2Vref,
      configFailure (decide (c.dac8Gain0 ≠ 1#8 ∧ c.dac8Gain0 ≠ 2#8)) .dac8Gain0,
      configFailure (decide (c.dac2Gain0 ≠ 1#8 ∧ c.dac2Gain0 ≠ 2#8)) .dac2Gain0,
      configFailure (decide (c.dac8GainOpc &&& 0x0F#8 ≠ 0#8)) .dac8GainOpc,
      configFailure (decide ((c.dac2CmdGain <<< 1) ||| (c.dac2RegGain <<< 3) ≥ 256)) .dac2GainFirst,
      configFailure (decide ((c.dac2CmdOut <<< 1) ||| (1 <<< 3) ≥ 256)) .dac2OutFirst ]

end Sys2Proof
end

