-- ==== Sys2Proof/Machine/Ops.lean ====
section
/-!
DEFINITION. The operations the commands share: register writes, the bus port (20_memory.md R30 to R35), ending a
command by `respond` or by `abort` (00_scope.md R8; 60_exceptions.md R131 to R133), the precondition guard (R132), the
gain write, and TREAD (44_temp.md R116). The RCU takes no trap and returns from none (60_exceptions.md R137, R138):
`abort` is the whole of what a failure does.
-/
namespace Sys2Proof.Machine

/-- `S.DAC8_GAIN <- g` (10_state.md R13). -/
def State.withDac8Gain (g : Nat) (s : State) : State := { s with dac8Gain := BitVec.ofNat 8 g }

/-- `S.DAC2_GAIN <- g` (10_state.md R13). -/
def State.withDac2Gain (g : Nat) (s : State) : State := { s with dac2Gain := BitVec.ofNat 8 g }

/-- `S.POLL_ACTIVE <- b` (10_state.md R14). -/
def State.withPollActive (b : BitVec 1) (s : State) : State := { s with pollActive := b }

/-- The host receives a response word (30_encoding.md R54). -/
def State.deliver (rw : ResponseWord) (s : State) : State := { s with responses := s.responses ++ [rw] }

/-- `respond(v)`: the command ends with status OK and VALUE = v (00_scope.md R8). -/
def State.respond (value : BitVec 48) (s : State) : State := s.deliver (responseWord .ok value)

/-- `abort st`: the command ends at once; its ERRSTAT bit is set and VALUE is 0 (60_exceptions.md R131 to R133). -/
def State.abort (st : Status) (s : State) : State := (s.setErr st.errBit).deliver (responseWord st 0#48)

/-- What the transport does with the k-th transaction from now: the listed answer, or beyond the list the free one
of that transaction's number (20_memory.md R34; log 3). -/
def State.answerAt (s : State) (k : Nat) : Answer :=
  match s.answers[k]? with
  | some a => a
  | none => Config.freeAnswer (s.busCount + k)

/-- The same, taken as the port's contract takes it (20_memory.md R34). -/
def State.replyAt (s : State) (rdlen k : Nat) : Answer := (s.answerAt k).contract rdlen

/-- A transaction is issued: it is appended to the trace and its answer is consumed (20_memory.md R31 to R33). -/
def State.issue (t : Transaction) (s : State) : State :=
  { s with answers := s.answers.tail, busCount := s.busCount + 1, trace := s.trace ++ [t] }

/-- The transport never answers: the transaction stays in flight and no response is produced
(70_reset_and_hazards.md R165; log 5). -/
def State.hang (t : Transaction) (s : State) : State := { s with inFlight := some t }

/-- Issues a transaction and goes on by its answer (20_memory.md R31 to R33). -/
def State.exchange (t : Transaction) (onOk : List Byte → State → State) (onFail : State → State) (s : State) : State :=
  match s.replyAt t.rdlen 0 with
  | .ok rx => onOk rx (s.issue t)
  | .fail => onFail (s.issue t)
  | .never => (s.issue t).hang t

/-- `BusWrite(addr, bytes)` (20_memory.md R31). -/
def busWrite (addr : Nat) (bytes : List Byte) : Transaction :=
  { kind := .write, addr := BitVec.ofNat 7 addr, tx := bytes, rdlen := 0 }

/-- `BusRead(addr, n)` (20_memory.md R32). -/
def busRead (addr n : Nat) : Transaction :=
  { kind := .read, addr := BitVec.ofNat 7 addr, tx := [], rdlen := n }

/-- `BusWriteRead(addr, bytes, n)` (20_memory.md R33). -/
def busWriteRead (addr : Nat) (bytes : List Byte) (n : Nat) : Transaction :=
  { kind := .writeRead, addr := BitVec.ofNat 7 addr, tx := bytes, rdlen := n }

/-- A received byte by its place; the port's contract gives the list its length (20_memory.md R34). -/
def byteAt (rx : List Byte) (k : Nat) : Byte := rx.getD k 0#8

/-- A command's body runs when no precondition is violated; else the command aborts with the first violation and
nothing else happens (60_exceptions.md R132, R136). -/
def State.guarded (checks : List (Option Status)) (body : State → State) (s : State) : State :=
  match firstViolation checks with
  | some st => s.abort st
  | none => body s

/-- The one write of a DAC command: respond with 0, or abort with E_TRANSPORT and no retry (41_dac8.md, 42_dac2.md;
60_exceptions.md R133). `onOk` is a register write that waits for success, the identity but for the switch of D18. -/
def State.dacWrite (addr : Nat) (bytes : List Byte) (onOk : State → State) (s : State) : State :=
  s.exchange (busWrite addr bytes) (fun _ s1 => (onOk s1).respond 0#48) (fun s1 => s1.abort .transport)

/-- The write of a gain command: the shadow gain is committed before the transaction is issued (60_exceptions.md
R133, D18), or, under the switch of D18 set to false, only when the transaction succeeds (log 10). -/
def State.gainWrite (addr : Nat) (bytes : List Byte) (commit : State → State) (s : State) : State :=
  if s.cfg.variants.gainCommitBeforeWrite then
    (commit s).dacWrite addr bytes id
  else
    s.dacWrite addr bytes commit

/-- TREAD's attempts, as many as `attempts` (44_temp.md R116): the first answer with bytes ends the loop, its third byte
(the PEC) is dropped, and when every attempt failed ERRSTAT.SENT is set and the sentinel is the result. What follows
the read is `done`. -/
def State.treadLoop (t : Transaction) (done : Int → State → State) (attempts : Nat) (s : State) : State :=
  match attempts with
  | 0 => done sentinel (s.setErr bitSent)
  | n + 1 =>
    s.exchange t (fun rx s1 => done (celsius (raw16 (byteAt rx 0) (byteAt rx 1))) s1)
      (fun s1 => State.treadLoop t done n s1)

/-- The transaction of a temperature read (44_temp.md R116). -/
def treadTransaction (c : Config) (a : Nat) (type : RegType) : Transaction := busWriteRead c.tmpAddr [tbank a type] 3

/-- `respond(sext_48(convert(TREAD(a, type))))`: five attempts at most (44_temp.md R116). -/
def State.tread (a : Nat) (type : RegType) (convert : Int → Int) (s : State) : State :=
  State.treadLoop (treadTransaction s.cfg a type) (fun v s1 => s1.respond (sext48 (convert v))) 5 s

/-- The conversion of the Fahrenheit reads: the sentinel is converted like any other value (44_temp.md R121), unless
the switch of 93_implementation_defined.md U4 is set (log 10). -/
def fahrenheit (c : Config) (t : Int) : Int :=
  if c.variants.fSpecialCasesSentinel && decide (t = sentinel) then t else c2f t

end Sys2Proof.Machine
end

