-- ==== Sys2Proof/Machine/Adc.lean ====
section
/-!
DEFINITION. The ADC command (43_adc.md).
-/
namespace Sys2Proof.Machine

/-- The voltage of two received bytes, the first being the high one; the code is not masked (43_adc.md R110). -/
def adcResult (c : Config) (rx : List Byte) : BitVec 48 :=
  zext48 (adcVolt (adcCode (byteAt rx 0) (byteAt rx 1)) c.adcVref.toNat)

/-- ADC.READ: one read of two bytes, no retry (43_adc.md R110). -/
def execAdcRead (s : State) : Host.Outcome State Fault Refusal :=
  .next (s.exchange (busRead s.cfg.adcAddr 2) (fun rx s1 => s1.respond (adcResult s.cfg rx))
    (fun s1 => s1.abort .transport))

end Sys2Proof.Machine
end

