-- ==== Sys2Proof/Machine/Dac2.lean ====
section
/-!
DEFINITION. The 2-channel gain DAC commands (42_dac2.md).
-/
namespace Sys2Proof.Machine

/-- The frame that writes the gain-setup register (42_dac2.md R100). -/
def dac2GainFrame (c : Config) (gain : Nat) : List Byte :=
  [first2 c.dac2CmdGain c.dac2RegGain, hi (gainVal2 gain), lo (gainVal2 gain)]

/-- The gain write that both gain commands of the family make (42_dac2.md R100, R101). -/
def State.dac2WriteGain (gain : Nat) (s : State) : State :=
  s.guarded [checkGain gain] fun s =>
    s.gainWrite s.cfg.dac2Addr (dac2GainFrame s.cfg gain) (State.withDac2Gain gain)

/-- DAC2.SETALLGAIN (42_dac2.md R100). -/
def execDac2SetAllGain (gain : Nat) (s : State) : Host.Outcome State Fault Refusal :=
  .next (s.dac2WriteGain gain)

/-- DAC2.SETSINGLEGAIN, the same as DAC2.SETALLGAIN in every respect but the opcode (42_dac2.md R101). -/
def execDac2SetSingleGain (gain : Nat) (s : State) : Host.Outcome State Fault Refusal :=
  .next (s.dac2WriteGain gain)

/-- The code DAC2.OUTPUTVOLTDC sends (42_dac2.md R102). -/
def State.dac2Code (s : State) (volt : Nat) : Nat := dacCode2 volt s.cfg.dac2Vref.toNat s.dac2Gain.toNat

/-- DAC2.OUTPUTVOLTDC (42_dac2.md R102). -/
def execDac2OutputVoltDc (channel volt : Nat) (s : State) : Host.Outcome State Fault Refusal :=
  .next (s.guarded [checkChannel channel 1, checkVolt volt s.cfg.dac2Vref] fun s =>
    s.dacWrite s.cfg.dac2Addr [first2 s.cfg.dac2CmdOut channel, hi (s.dac2Code volt), lo (s.dac2Code volt)] id)

/-- DAC2.OUTPUTRESET, the one frame of the family that does not go through FIRST2 (42_dac2.md R103). -/
def execDac2OutputReset (s : State) : Host.Outcome State Fault Refusal :=
  .next (s.dacWrite s.cfg.dac2Addr [0x00#8, 0x00#8] id)

end Sys2Proof.Machine
end

