-- ==== Sys2Proof/Machine/Dac8.lean ====
section
/-!
DEFINITION. The 8-channel DAC commands (41_dac8.md).
-/
namespace Sys2Proof.Machine

/-- DAC8.SETALLGAIN (41_dac8.md R90). -/
def execDac8SetAllGain (gain : Nat) (s : State) : Host.Outcome State Fault Refusal :=
  .next (s.guarded [checkGain gain] fun s =>
    s.gainWrite s.cfg.dac8Addr [gainCmd8All s.cfg.dac8GainOpc gain] (State.withDac8Gain gain))

/-- DAC8.SETSINGLEGAIN (41_dac8.md R91). The one shadow gain of the family is written (D17), unless the switch of D17
is set to false (log 10). -/
def execDac8SetSingleGain (channel gain : Nat) (s : State) : Host.Outcome State Fault Refusal :=
  .next (s.guarded [checkChannel channel 7, checkGain gain, checkChanLimit channel] fun s =>
    s.gainWrite s.cfg.dac8Addr [gainCmd8Single s.cfg.dac8GainOpc channel gain]
      (if s.cfg.variants.singleGainUpdatesShadow then State.withDac8Gain gain else id))

/-- The code DAC8.OUTPUTVOLTDC sends: the shadow gain is the factor (41_dac8.md R92). -/
def State.dac8Code (s : State) (volt : Nat) : Nat := dacCode8 volt s.cfg.dac8Vref.toNat s.dac8Gain.toNat

/-- DAC8.OUTPUTVOLTDC (41_dac8.md R92). -/
def execDac8OutputVoltDc (channel volt : Nat) (s : State) : Host.Outcome State Fault Refusal :=
  .next (s.guarded [checkChannel channel 7, checkVolt volt s.cfg.dac8Vref] fun s =>
    s.dacWrite s.cfg.dac8Addr [channelCommand s.cfg channel, hi (s.dac8Code volt), lo (s.dac8Code volt)] id)

/-- DAC8.OUTPUTRESET (41_dac8.md R93). -/
def execDac8OutputReset (s : State) : Host.Outcome State Fault Refusal :=
  .next (s.dacWrite s.cfg.dac8Addr [0x00#8, 0x00#8] id)

end Sys2Proof.Machine
end

