-- ==== Sys2Proof/Machine/Tmp.lean ====
section
/-!
DEFINITION. The temperature sensor commands (44_temp.md), six over TREAD and two over the polling flag.
-/
namespace Sys2Proof.Machine

/-- TMP.READ (44_temp.md R117). -/
def execTmpRead (registerAddress registerType : Nat) (s : State) : Host.Outcome State Fault Refusal :=
  .next (s.guarded [checkRegType registerType] fun s => s.tread registerAddress (regTypeOf registerType) id)

/-- TMP.READOBJC (44_temp.md R120). -/
def execTmpReadObjC (s : State) : Host.Outcome State Fault Refusal :=
  .next (s.tread s.cfg.tmpRegObj.toNat .ram id)

/-- TMP.READOBJF (44_temp.md R121). -/
def execTmpReadObjF (s : State) : Host.Outcome State Fault Refusal :=
  .next (s.tread s.cfg.tmpRegObj.toNat .ram (fahrenheit s.cfg))

/-- TMP.READAMBC (44_temp.md R122). -/
def execTmpReadAmbC (s : State) : Host.Outcome State Fault Refusal :=
  .next (s.tread s.cfg.tmpRegAmb.toNat .ram id)

/-- TMP.READAMBF (44_temp.md R123). -/
def execTmpReadAmbF (s : State) : Host.Outcome State Fault Refusal :=
  .next (s.tread s.cfg.tmpRegAmb.toNat .ram (fahrenheit s.cfg))

/-- TMP.GETOBJ (44_temp.md R124). -/
def execTmpGetObj (s : State) : Host.Outcome State Fault Refusal :=
  .next (s.tread s.cfg.tmpRegObj.toNat .ram correct)

/-- TMP.READSTART (44_temp.md R126). -/
def execTmpReadStart (s : State) : Host.Outcome State Fault Refusal :=
  .next ((s.withPollActive 1#1).respond 1#48)

/-- TMP.READSTOP (44_temp.md R127). -/
def execTmpReadStop (s : State) : Host.Outcome State Fault Refusal :=
  .next ((s.withPollActive 0#1).respond 0#48)

end Sys2Proof.Machine
end

