-- ==== Sys2Proof/Machine/Dispatch.lean ====
section
/-!
DEFINITION. The meaning of each command, one arm per row of spec/opcode_table.json.
-/
namespace Sys2Proof.Machine

def exec (i : Instr) (s : State) : Host.Outcome State Fault Refusal :=
  match i with
  | .dac8SetAllGain gain => Sys2Proof.Machine.execDac8SetAllGain gain s
  | .dac8SetSingleGain channel gain => Sys2Proof.Machine.execDac8SetSingleGain channel gain s
  | .dac8OutputVoltDc channel volt => Sys2Proof.Machine.execDac8OutputVoltDc channel volt s
  | .dac8OutputReset => Sys2Proof.Machine.execDac8OutputReset s
  | .dac2SetAllGain gain => Sys2Proof.Machine.execDac2SetAllGain gain s
  | .dac2SetSingleGain gain => Sys2Proof.Machine.execDac2SetSingleGain gain s
  | .dac2OutputVoltDc channel volt => Sys2Proof.Machine.execDac2OutputVoltDc channel volt s
  | .dac2OutputReset => Sys2Proof.Machine.execDac2OutputReset s
  | .adcRead => Sys2Proof.Machine.execAdcRead s
  | .tmpRead registerAddress registerType => Sys2Proof.Machine.execTmpRead registerAddress registerType s
  | .tmpReadObjC => Sys2Proof.Machine.execTmpReadObjC s
  | .tmpReadObjF => Sys2Proof.Machine.execTmpReadObjF s
  | .tmpReadAmbC => Sys2Proof.Machine.execTmpReadAmbC s
  | .tmpReadAmbF => Sys2Proof.Machine.execTmpReadAmbF s
  | .tmpGetObj => Sys2Proof.Machine.execTmpGetObj s
  | .tmpReadStart => Sys2Proof.Machine.execTmpReadStart s
  | .tmpReadStop => Sys2Proof.Machine.execTmpReadStop s

end Sys2Proof.Machine
end

