-- ==== Sys2Proof/Machine/Command.lean ====
section
/-!
DEFINITION. One event of the host: a command word decoded and executed (00_scope.md R6; 30_encoding.md R53), an illegal
word (60_exceptions.md R131), a reset (70_reset_and_hazards.md R150), or none (60_exceptions.md R149).
-/
namespace Sys2Proof.Machine

/-- A command word: the command it decodes to, or, where it is none, E_ILLEGAL and nothing else (60_exceptions.md
R131). -/
def runWord (w : CommandWord) (s : State) : Host.Outcome State Fault Refusal :=
  match decode w with
  | .ok i => exec i s
  | .error _ => .next (s.abort .illegal)

/-- Reset with a configuration (70_reset_and_hazards.md R150): every register, the transaction in flight, the trace and
the responses are as `State.resetWith` has them, and what the host and the transport have yet to do is untouched. An
ill-formed configuration is refused by the name of the failed check (10_state.md R12). -/
def runReset (c : Config) (s : State) : Host.Outcome State Fault Refusal :=
  match c.failedCheck with
  | some failed => .refused (.badConfig failed)
  | none =>
    .next { State.resetWith c with inputs := s.inputs, answers := s.answers, busCount := s.busCount }

/-- The RCU accepts a command only under a well-formed configuration (10_state.md R12) and with nothing in flight
(70_reset_and_hazards.md R165). -/
def State.whenReady (s : State) (go : Host.Outcome State Fault Refusal) : Host.Outcome State Fault Refusal :=
  match s.cfg.failedCheck with
  | some failed => .refused (.badConfig failed)
  | none =>
    match s.inFlight with
    | some _ => .fault .transportNeverAnswers
    | none => go

/-- The host has presented its next event. -/
def State.takeInput (s : State) : State := { s with inputs := s.inputs.tail }

/-- The next event of the host; with none the RCU is idle and holds its state (60_exceptions.md R149). -/
def runNextInput (s : State) : Host.Outcome State Fault Refusal :=
  match s.inputs with
  | [] => s.whenReady (.next s)
  | .command w :: _ => s.whenReady (runWord w s.takeInput)
  | .reset c :: _ => runReset c s.takeInput

/-- The command word whose bits are `w`, every bit from `nbits` up being zero, presented next, with nothing in flight. -/
def State.presentNext (s : State) (nbits w : Nat) : State :=
  { s with inFlight := none, inputs := .command (BitVec.ofNat 64 (w % 2 ^ nbits)) :: s.inputs }

end Sys2Proof.Machine
end

