-- ==== Sys2Proof/Machine/Step.lean ====
section
/-!
DEFINITION. The step: the next event the host presents (00_scope.md R6).
-/
namespace Sys2Proof.Machine

/-- One step of the machine is one event of the host (00_scope.md R6). -/
def step (s : State) : Host.Outcome State Fault Refusal := runNextInput s

/-- The state in which the very next step runs the command word `w` (log 6). -/
def State.withFetchWord (s : State) (nbits w : Nat) : State := s.presentNext nbits w

end Sys2Proof.Machine
end

