-- ==== Sys2Proof/Machine/Assembler.lean ====
section
/-!
DEFINITION. The assembler (30_encoding.md R57) over written commands as data: numbers, a voltage as a decimal number of
millivolts, a register type by its word. The characters of the text are not modelled (log 14).
-/
namespace Sys2Proof.Machine

/-- A decimal number as written: its digits read as one number, and how many of them stand after the point. -/
structure Decimal where
  digits : Nat
  places : Nat
deriving DecidableEq, Repr

/-- A written command (30_encoding.md R57). -/
inductive AsmCommand where
  | dac8SetAllGain (gain : Nat)
  | dac8SetSingleGain (channel gain : Nat)
  | dac8OutputVoltDc (channel : Nat) (millivolts : Decimal)
  | dac8OutputReset
  | dac2SetAllGain (gain : Nat)
  | dac2SetSingleGain (gain : Nat)
  | dac2OutputVoltDc (channel : Nat) (millivolts : Decimal)
  | dac2OutputReset
  | adcRead
  | tmpRead (registerAddress : Nat) (registerType : RegType)
  | tmpReadObjC
  | tmpReadObjF
  | tmpReadAmbC
  | tmpReadAmbF
  | tmpGetObj
  | tmpReadStart
  | tmpReadStop
deriving DecidableEq, Repr

/-- The raw UQ16.16 value of a voltage; one that is no multiple of 1/65536 mV is rejected (30_encoding.md R57). -/
def Decimal.toRaw? (d : Decimal) : Option Nat :=
  if d.digits * 65536 % 10 ^ d.places = 0 then some (d.digits * 65536 / 10 ^ d.places) else none

/-- The value of the register type's word (30_encoding.md R50, R57). -/
def regTypeCode (type : RegType) : Nat :=
  match type with
  | .ram => 0
  | .eeprom => 1

/-- The command a written one stands for. -/
def AsmCommand.toInstr? (c : AsmCommand) : Option Instr :=
  match c with
  | .dac8SetAllGain gain => some (.dac8SetAllGain gain)
  | .dac8SetSingleGain channel gain => some (.dac8SetSingleGain channel gain)
  | .dac8OutputVoltDc channel mv => mv.toRaw?.map (fun volt => .dac8OutputVoltDc channel volt)
  | .dac8OutputReset => some .dac8OutputReset
  | .dac2SetAllGain gain => some (.dac2SetAllGain gain)
  | .dac2SetSingleGain gain => some (.dac2SetSingleGain gain)
  | .dac2OutputVoltDc channel mv => mv.toRaw?.map (fun volt => .dac2OutputVoltDc channel volt)
  | .dac2OutputReset => some .dac2OutputReset
  | .adcRead => some .adcRead
  | .tmpRead registerAddress type => some (.tmpRead registerAddress (regTypeCode type))
  | .tmpReadObjC => some .tmpReadObjC
  | .tmpReadObjF => some .tmpReadObjF
  | .tmpReadAmbC => some .tmpReadAmbC
  | .tmpReadAmbF => some .tmpReadAmbF
  | .tmpGetObj => some .tmpGetObj
  | .tmpReadStart => some .tmpReadStart
  | .tmpReadStop => some .tmpReadStop

/-- The command word; zero in every field not given (30_encoding.md R57). An operand that does not fit its field is
rejected as well (log 14). -/
def assemble (c : AsmCommand) : Option CommandWord :=
  match c.toInstr? with
  | some i => if i.wellFormed then some (encode i) else none
  | none => none

/-- The mnemonic of each command (30_encoding.md R52, R57). -/
def mnemonic (i : Instr) : String :=
  match i with
  | .dac8SetAllGain _ => "DAC8.SETALLGAIN"
  | .dac8SetSingleGain _ _ => "DAC8.SETSINGLEGAIN"
  | .dac8OutputVoltDc _ _ => "DAC8.OUTPUTVOLTDC"
  | .dac8OutputReset => "DAC8.OUTPUTRESET"
  | .dac2SetAllGain _ => "DAC2.SETALLGAIN"
  | .dac2SetSingleGain _ => "DAC2.SETSINGLEGAIN"
  | .dac2OutputVoltDc _ _ => "DAC2.OUTPUTVOLTDC"
  | .dac2OutputReset => "DAC2.OUTPUTRESET"
  | .adcRead => "ADC.READ"
  | .tmpRead _ _ => "TMP.READ"
  | .tmpReadObjC => "TMP.READOBJC"
  | .tmpReadObjF => "TMP.READOBJF"
  | .tmpReadAmbC => "TMP.READAMBC"
  | .tmpReadAmbF => "TMP.READAMBF"
  | .tmpGetObj => "TMP.GETOBJ"
  | .tmpReadStart => "TMP.READSTART"
  | .tmpReadStop => "TMP.READSTOP"

end Sys2Proof.Machine
end

