-- ==== Sys2Proof/Machine/Observe.lean ====
section
/-!
DEFINITION. The observation port (10_state.md R21), and the one request the external Polling Monitor makes of the RCU
(60_exceptions.md R146). Neither is a step: a read has no side effect and issues no transaction.
-/
namespace Sys2Proof.Machine

/-- Reads a state register by its number (10_state.md R21): POLL_ACTIVE reads 0 in bits 7:1. A number above 3 names no
register (log 12). -/
def State.readRegister (s : State) (number : Nat) : Option Byte :=
  match number with
  | 0 => some s.dac8Gain
  | 1 => some s.dac2Gain
  | 2 => some (s.pollActive.setWidth 8)
  | 3 => some s.errstat
  | _ => none

/-- The command word the Polling Monitor presents when it looks at the flag: TMP.GETOBJ while POLL_ACTIVE reads 1, else
none (60_exceptions.md R146; log 13). -/
def State.pollMonitorRequest (s : State) : Option CommandWord :=
  if s.readRegister 2 = some 0x01#8 then some 0x4500000000000000#64 else none

end Sys2Proof.Machine
end

