-- ==== Sys2Proof/Safety.lean ====
section
/-!
DEFINITION. What counts as a safe run, in the terms the claims use: the invariant of 10_state.md R20, the premise "no
fault recorded" of R15, the readiness a step asks for, the precondition each command checks (60_exceptions.md R136),
the statuses it can end with (R135), the transactions it issues (20_memory.md R36), and the state that issuing
transactions leaves.
-/
namespace Sys2Proof.Machine

/-- The invariant of 10_state.md R20. -/
abbrev State.Inv (s : State) : Prop :=
  (s.dac8Gain = 1#8 ∨ s.dac8Gain = 2#8) ∧ (s.dac2Gain = 1#8 ∨ s.dac2Gain = 2#8) ∧ s.errstat.extractLsb' 4 4 = 0#4

/-- No fault is recorded (10_state.md R15). -/
abbrev State.NoFaultRecorded (s : State) : Prop := s.errstat = 0x00#8

/-- The RCU can accept a command: its configuration is well formed (10_state.md R12) and nothing is in flight (R19). -/
abbrev State.Ready (s : State) : Prop := s.cfg.failedCheck = none ∧ s.inFlight = none

/-- The state after `n` transactions `t` were issued: they are in the trace and their answers are consumed. -/
def State.issued (t : Transaction) (n : Nat) (s : State) : State :=
  { s with
    answers := s.answers.drop n
    busCount := s.busCount + n
    trace := s.trace ++ List.replicate n t }

/-- The state after a command ended at once with the response word `rw`, having set bits of ERRSTAT (60_exceptions.md
R131 to R133). -/
def State.ended (bits : Byte) (rw : ResponseWord) (s : State) : State :=
  { s with errstat := s.errstat ||| bits, responses := s.responses ++ [rw] }

/-- The shape of a transaction: kind, device address, how many bytes are sent and how many are received. -/
structure TransactionShape where
  kind  : TransactionKind
  addr  : BitVec 7
  sent  : Nat
  rdlen : Nat
deriving DecidableEq, Repr

/-- The shape a transaction has. -/
def shapeOf (t : Transaction) : TransactionShape :=
  { kind := t.kind, addr := t.addr, sent := t.tx.length, rdlen := t.rdlen }

end Sys2Proof.Machine

namespace Sys2Proof

open Sys2Proof.Machine

/-- The first precondition a command violates, in the order of checking (60_exceptions.md R136). -/
def Instr.violated (i : Instr) (c : Config) : Option Status :=
  match i with
  | .dac8SetAllGain gain | .dac2SetAllGain gain | .dac2SetSingleGain gain =>
    if gain ≠ 1 ∧ gain ≠ 2 then some .gain else none
  | .dac8SetSingleGain channel gain =>
    if channel > 7 then some .channel
    else if gain ≠ 1 ∧ gain ≠ 2 then some .gain
    else if channel > 3 then some .chanLimit
    else none
  | .dac8OutputVoltDc channel volt =>
    if channel > 7 then some .channel else if volt > c.dac8Vref.toNat then some .volt else none
  | .dac2OutputVoltDc channel volt =>
    if channel > 1 then some .channel else if volt > c.dac2Vref.toNat then some .volt else none
  | .tmpRead _ registerType => if registerType > 1 then some .regType else none
  | .dac8OutputReset | .dac2OutputReset | .adcRead | .tmpReadObjC | .tmpReadObjF | .tmpReadAmbC | .tmpReadAmbF
  | .tmpGetObj | .tmpReadStart | .tmpReadStop => none

/-- The table of what a command can end with (60_exceptions.md R135). -/
def Instr.canEndWith (i : Instr) : List Status :=
  match i with
  | .dac8SetAllGain _ => [.ok, .gain, .transport]
  | .dac8SetSingleGain _ _ => [.ok, .channel, .gain, .chanLimit, .transport]
  | .dac8OutputVoltDc _ _ => [.ok, .channel, .volt, .transport]
  | .dac8OutputReset => [.ok, .transport]
  | .dac2SetAllGain _ => [.ok, .gain, .transport]
  | .dac2SetSingleGain _ => [.ok, .gain, .transport]
  | .dac2OutputVoltDc _ _ => [.ok, .channel, .volt, .transport]
  | .dac2OutputReset => [.ok, .transport]
  | .adcRead => [.ok, .transport]
  | .tmpRead _ _ => [.ok, .regType]
  | .tmpReadObjC | .tmpReadObjF | .tmpReadAmbC | .tmpReadAmbF | .tmpGetObj => [.ok]
  | .tmpReadStart | .tmpReadStop => [.ok]

/-- The table of which command reaches which device, and how (20_memory.md R36); none for the flag commands. -/
def Instr.transactionShape (i : Instr) (c : Config) : Option TransactionShape :=
  match i with
  | .dac8SetAllGain _ | .dac8SetSingleGain _ _ => some ⟨.write, BitVec.ofNat 7 c.dac8Addr, 1, 0⟩
  | .dac8OutputVoltDc _ _ => some ⟨.write, BitVec.ofNat 7 c.dac8Addr, 3, 0⟩
  | .dac8OutputReset => some ⟨.write, BitVec.ofNat 7 c.dac8Addr, 2, 0⟩
  | .dac2SetAllGain _ | .dac2SetSingleGain _ | .dac2OutputVoltDc _ _ =>
    some ⟨.write, BitVec.ofNat 7 c.dac2Addr, 3, 0⟩
  | .dac2OutputReset => some ⟨.write, BitVec.ofNat 7 c.dac2Addr, 2, 0⟩
  | .adcRead => some ⟨.read, BitVec.ofNat 7 c.adcAddr, 0, 2⟩
  | .tmpRead _ _ | .tmpReadObjC | .tmpReadObjF | .tmpReadAmbC | .tmpReadAmbF | .tmpGetObj =>
    some ⟨.writeRead, BitVec.ofNat 7 c.tmpAddr, 1, 3⟩
  | .tmpReadStart | .tmpReadStop => none

/-- How many transactions a command can issue (20_memory.md R36). -/
def Instr.mostTransactions (i : Instr) : Nat :=
  match i with
  | .tmpRead _ _ | .tmpReadObjC | .tmpReadObjF | .tmpReadAmbC | .tmpReadAmbF | .tmpGetObj => 5
  | .tmpReadStart | .tmpReadStop => 0
  | .dac8SetAllGain _ | .dac8SetSingleGain _ _ | .dac8OutputVoltDc _ _ | .dac8OutputReset | .dac2SetAllGain _
  | .dac2SetSingleGain _ | .dac2OutputVoltDc _ _ | .dac2OutputReset | .adcRead => 1

end Sys2Proof

namespace Sys2Proof.Machine

/-- The transport never answers command `i` run from `s`: the command passes its preconditions, and one of its
transactions gets no answer after every one before it failed (70_reset_and_hazards.md R165). -/
def State.SilentTo (s : State) (i : Instr) : Prop :=
  i.violated s.cfg = none ∧
  ∃ sh k, i.transactionShape s.cfg = some sh ∧ k < i.mostTransactions ∧
    (∀ j < k, s.replyAt sh.rdlen j = .fail) ∧ s.replyAt sh.rdlen k = .never

/-- Every transaction of the trace has the shape that some command's row gives it under the configuration in force
(20_memory.md R36, R41). -/
def State.TraceLegal (s : State) : Prop := ∀ t ∈ s.trace, ∃ i : Instr, i.transactionShape s.cfg = some (shapeOf t)

/-- A response word of the form of 30_encoding.md R54: STATUS is one of the eight codes of 60_exceptions.md R130, bits
55:48 are 0, and VALUE is 0 whenever STATUS is not OK. -/
def responseLegal (rw : ResponseWord) : Prop :=
  (responseStatus rw).toNat ≤ 7 ∧ rw.extractLsb' 48 8 = 0#8 ∧ (responseStatus rw ≠ 0#8 → responseValue rw = 0#48)

/-- Every response word delivered has the form of 30_encoding.md R54. -/
def State.ResponsesLegal (s : State) : Prop := ∀ rw ∈ s.responses, responseLegal rw

/-- The next event, if there is one, is no reset. -/
def State.NextIsNoReset (s : State) : Prop := ∀ c rest, s.inputs ≠ .reset c :: rest

end Sys2Proof.Machine
end

