-- ==== Sys2Proof/Certificates/Slice0/Obligations.lean ====
section
/-!
DEFINITION. The statements for the provers. A statement over a state `s` holds for every configuration `s.cfg`, for every
listed and every free answer, and for states that no run reaches. `s.replyAt n k` is what the transport does with the
k-th transaction from now when it asks for n bytes; `s.issued t n` is `s` after n transactions `t`; `s.ended bits rw` is
`s` after an abort.
-/

open Sys2Proof Sys2Proof.Machine

/-! ### Encoding -/

/-- 30_encoding.md R50 to R53, R57: no operand of a well-formed command is lost by encoding it. -/
def Obligations.EncodedCommandDecodesToItself : Prop :=
  ∀ i : Instr, i.wellFormed = true → decode (encode i) = .ok i

/-- 30_encoding.md R52, R53: the whole decoder, row by row, from the five fields of the word. -/
def Obligations.DecodeFollowsOpcodeMap : Prop :=
  ∀ (opc a b z : Byte) (v : BitVec 32),
    (z ≠ 0#8 → decode (opc ++ a ++ b ++ z ++ v) = .error (.reservedField z)) ∧
    (z = 0#8 →
      (opc = 0x10#8 → decode (opc ++ a ++ b ++ z ++ v) = .ok (.dac8SetAllGain b.toNat)) ∧
      (opc = 0x11#8 → decode (opc ++ a ++ b ++ z ++ v) = .ok (.dac8SetSingleGain a.toNat b.toNat)) ∧
      (opc = 0x12#8 → decode (opc ++ a ++ b ++ z ++ v) = .ok (.dac8OutputVoltDc a.toNat v.toNat)) ∧
      (opc = 0x13#8 → decode (opc ++ a ++ b ++ z ++ v) = .ok .dac8OutputReset) ∧
      (opc = 0x20#8 → decode (opc ++ a ++ b ++ z ++ v) = .ok (.dac2SetAllGain b.toNat)) ∧
      (opc = 0x21#8 → decode (opc ++ a ++ b ++ z ++ v) = .ok (.dac2SetSingleGain b.toNat)) ∧
      (opc = 0x22#8 → decode (opc ++ a ++ b ++ z ++ v) = .ok (.dac2OutputVoltDc a.toNat v.toNat)) ∧
      (opc = 0x23#8 → decode (opc ++ a ++ b ++ z ++ v) = .ok .dac2OutputReset) ∧
      (opc = 0x30#8 → decode (opc ++ a ++ b ++ z ++ v) = .ok .adcRead) ∧
      (opc = 0x40#8 → decode (opc ++ a ++ b ++ z ++ v) = .ok (.tmpRead a.toNat b.toNat)) ∧
      (opc = 0x41#8 → decode (opc ++ a ++ b ++ z ++ v) = .ok .tmpReadObjC) ∧
      (opc = 0x42#8 → decode (opc ++ a ++ b ++ z ++ v) = .ok .tmpReadObjF) ∧
      (opc = 0x43#8 → decode (opc ++ a ++ b ++ z ++ v) = .ok .tmpReadAmbC) ∧
      (opc = 0x44#8 → decode (opc ++ a ++ b ++ z ++ v) = .ok .tmpReadAmbF) ∧
      (opc = 0x45#8 → decode (opc ++ a ++ b ++ z ++ v) = .ok .tmpGetObj) ∧
      (opc = 0x46#8 → decode (opc ++ a ++ b ++ z ++ v) = .ok .tmpReadStart) ∧
      (opc = 0x47#8 → decode (opc ++ a ++ b ++ z ++ v) = .ok .tmpReadStop) ∧
      (opc ∉ [0x10#8, 0x11#8, 0x12#8, 0x13#8, 0x20#8, 0x21#8, 0x22#8, 0x23#8, 0x30#8, 0x40#8, 0x41#8, 0x42#8, 0x43#8,
          0x44#8, 0x45#8, 0x46#8, 0x47#8] →
        decode (opc ++ a ++ b ++ z ++ v) = .error (.unknownOpcode opc)))

/-- 30_encoding.md R52: a word is a command exactly when `CW & mask = match` for one of the rows. -/
def Obligations.MaskedWordSelectsRow : Prop :=
  ∀ w : CommandWord,
    (∀ i, decode w = .ok i → i.wellFormed = true ∧ w &&& 0xFF0000FF00000000#64 = i.opcode ++ 0#56) ∧
    (∀ i : Instr, w &&& 0xFF0000FF00000000#64 = i.opcode ++ 0#56 → ∃ j, decode w = .ok j ∧ j.opcode = i.opcode)

/-- 30_encoding.md R56: a field that a command does not use may hold any value and changes nothing. -/
def Obligations.UnusedFieldsChangeNothing : Prop :=
  ∀ (opc a a' b b' : Byte) (v v' : BitVec 32) (s : State),
    (opc ∈ [0x11#8, 0x12#8, 0x22#8, 0x40#8] → a = a') →
    (opc ∈ [0x10#8, 0x11#8, 0x20#8, 0x21#8, 0x40#8] → b = b') →
    (opc ∈ [0x12#8, 0x22#8] → v = v') →
    runWord (opc ++ a ++ b ++ 0#8 ++ v) s = runWord (opc ++ a' ++ b' ++ 0#8 ++ v') s

/-- 30_encoding.md R52, R57: words written out from the spec's encoding decode to the commands they stand for. -/
def Obligations.WrittenWordsDecode : Prop :=
  decode 0x1101020000000000#64 = .ok (.dac8SetSingleGain 1 2) ∧
  decode 0x1203000009C40000#64 = .ok (.dac8OutputVoltDc 3 163840000) ∧
  decode 0x2000010000000000#64 = .ok (.dac2SetAllGain 1) ∧
  decode 0x3000000000000000#64 = .ok .adcRead ∧
  decode 0x400E010000000000#64 = .ok (.tmpRead 14 1)

/-- 30_encoding.md R57: for each written form, the exact word, with the operands in their fields and zero in the others.
A voltage of `digits / 10 ^ places` mV that is no multiple of 1/65536 mV is rejected; that an operand too wide for its
field is rejected as well is the model's choice (log 14). The last clause: every word given decodes to the command. -/
def Obligations.AssembledWordIsTheCommandWritten : Prop :=
  (∀ gain : Nat,
    assemble (.dac8SetAllGain gain) =
      (if gain < 256 then some (0x10#8 ++ 0#8 ++ BitVec.ofNat 8 gain ++ 0#8 ++ 0#32) else none) ∧
    assemble (.dac2SetAllGain gain) =
      (if gain < 256 then some (0x20#8 ++ 0#8 ++ BitVec.ofNat 8 gain ++ 0#8 ++ 0#32) else none) ∧
    assemble (.dac2SetSingleGain gain) =
      (if gain < 256 then some (0x21#8 ++ 0#8 ++ BitVec.ofNat 8 gain ++ 0#8 ++ 0#32) else none)) ∧
  (∀ channel gain : Nat,
    assemble (.dac8SetSingleGain channel gain) =
      (if channel < 256 ∧ gain < 256 then
        some (0x11#8 ++ BitVec.ofNat 8 channel ++ BitVec.ofNat 8 gain ++ 0#8 ++ 0#32)
      else none)) ∧
  (∀ channel digits places : Nat,
    assemble (.dac8OutputVoltDc channel ⟨digits, places⟩) =
      (if channel < 256 ∧ 10 ^ places ∣ digits * 65536 ∧ digits * 65536 / 10 ^ places < 2 ^ 32 then
        some (0x12#8 ++ BitVec.ofNat 8 channel ++ 0#8 ++ 0#8 ++ BitVec.ofNat 32 (digits * 65536 / 10 ^ places))
      else none) ∧
    assemble (.dac2OutputVoltDc channel ⟨digits, places⟩) =
      (if channel < 256 ∧ 10 ^ places ∣ digits * 65536 ∧ digits * 65536 / 10 ^ places < 2 ^ 32 then
        some (0x22#8 ++ BitVec.ofNat 8 channel ++ 0#8 ++ 0#8 ++ BitVec.ofNat 32 (digits * 65536 / 10 ^ places))
      else none)) ∧
  (∀ registerAddress : Nat,
    assemble (.tmpRead registerAddress .ram) =
      (if registerAddress < 256 then some (0x40#8 ++ BitVec.ofNat 8 registerAddress ++ 0#8 ++ 0#8 ++ 0#32)
      else none) ∧
    assemble (.tmpRead registerAddress .eeprom) =
      (if registerAddress < 256 then some (0x40#8 ++ BitVec.ofNat 8 registerAddress ++ 1#8 ++ 0#8 ++ 0#32)
      else none)) ∧
  assemble .dac8OutputReset = some 0x1300000000000000#64 ∧ assemble .dac2OutputReset = some 0x2300000000000000#64 ∧
  assemble .adcRead = some 0x3000000000000000#64 ∧ assemble .tmpReadObjC = some 0x4100000000000000#64 ∧
  assemble .tmpReadObjF = some 0x4200000000000000#64 ∧ assemble .tmpReadAmbC = some 0x4300000000000000#64 ∧
  assemble .tmpReadAmbF = some 0x4400000000000000#64 ∧ assemble .tmpGetObj = some 0x4500000000000000#64 ∧
  assemble .tmpReadStart = some 0x4600000000000000#64 ∧ assemble .tmpReadStop = some 0x4700000000000000#64 ∧
  ∀ (c : AsmCommand) (w : CommandWord), assemble c = some w → ∃ i, c.toInstr? = some i ∧ decode w = .ok i

/-! ### Codec functions -/

/-- 40_codec_functions.md R71, every consequence it lists. -/
def Obligations.TwelveBitCodeBounds : Prop :=
  ∀ vr rr : Nat, 0 < rr → vr ≤ rr →
    (dacCode8 vr rr 1 ≤ 4095 ∧ (vr * 4096 * 1 / rr = 4096 ↔ vr = rr) ∧ (vr = rr → dacCode8 vr rr 1 = 4095)) ∧
    (vr * 4096 * 2 / rr ≤ 8192 ∧
      (vr * 2 * 4096 < rr * 4096 + rr → dacCode8 vr rr 2 ≤ 4095) ∧
      (rr ≤ 2 * vr → vr * 2 * 4096 < rr * 4096 + rr → vr * 4096 * 2 / rr = 4096 ∧ dacCode8 vr rr 2 = 4095) ∧
      (rr * 4096 + rr ≤ vr * 2 * 4096 → 4097 ≤ dacCode8 vr rr 2 ∧ dacCode8 vr rr 2 ≤ 8192) ∧
      (vr = rr → dacCode8 vr rr 2 = 8192)) ∧
    (∀ g, g = 1 ∨ g = 2 →
      dacCode8 vr rr g ≠ 4096 ∧ dacCode8 vr rr g ≤ 8192 ∧ dacCode8 vr rr g < 2 ^ 14 ∧ dacCode8 0 rr g = 0 ∧
      ∀ vr', vr ≤ vr' → vr' ≤ rr → dacCode8 vr rr g ≤ dacCode8 vr' rr g)

/-- 40_codec_functions.md R72, R73. -/
def Obligations.EightBitCodeBounds : Prop :=
  ∀ vr rr : Nat, 0 < rr → vr ≤ rr →
    dacCode2 vr rr 1 ≤ 255 ∧ (vr = rr → dacCode2 vr rr 1 = 255) ∧
    dacCode2 vr rr 2 ≤ 510 ∧ (255 < dacCode2 vr rr 2 ↔ 256 * rr ≤ vr * 510) ∧
    (∀ g, g = 1 ∨ g = 2 →
      dacCode2 vr rr g < 2 ^ 9 ∧ dacCode2 0 rr g = 0 ∧
      ∀ vr', vr ≤ vr' → vr' ≤ rr → dacCode2 vr rr g ≤ dacCode2 vr' rr g)

/-- 40_codec_functions.md R80, every consequence it lists. -/
def Obligations.AdcLineIsMonotoneThroughItsTwoPoints : Prop :=
  ∀ code rr : Nat,
    adcVolt 0 rr = 0 ∧ adcVolt 4095 rr = rr ∧
    (∀ code', code ≤ code' → adcVolt code rr ≤ adcVolt code' rr) ∧
    (4095 ≤ rr → ∀ code', code < code' → adcVolt code rr < adcVolt code' rr) ∧
    (rr < 4095 → ∃ c, adcVolt c rr = adcVolt (c + 1) rr) ∧
    (rr = 0 → adcVolt code rr = 0) ∧
    (code ≤ 4095 → adcVolt code rr ≤ rr) ∧
    (code ≤ 65535 → rr < 2 ^ 32 → adcVolt code rr ≤ 65535 * rr / 4095 ∧ adcVolt code rr < 2 ^ 37) ∧
    (4095 * adcVolt code rr ≤ code * rr ∧ code * rr < 4095 * (adcVolt code rr + 1))

/-- 40_codec_functions.md R74: the two bytes hold the low sixteen bits of the code, and bits 16 and above are dropped. -/
def Obligations.TwoBytesHoldTheCode : Prop :=
  ∀ c : Nat, hi c ++ lo c = BitVec.ofNat 16 c ∧ (c < 65536 → 256 * (hi c).toNat + (lo c).toNat = c)

/-- 40_codec_functions.md R75, R76: the single-channel bytes, and that the four of gain 2 make the all-channels byte. The
base value g - 1 of the single-channel byte is the spec's own choice (92_eei_decisions.md D19). -/
def Obligations.SingleGainBytesMakeTheAllGainByte : Prop :=
  ∀ opc : Byte, opc &&& 0x0F#8 = 0#8 →
    gainCmd8All opc 1 = opc ∧ gainCmd8All opc 2 = opc ||| 0x0F#8 ∧
    gainCmd8Single opc 0 2 = opc ||| 0x08#8 ∧ gainCmd8Single opc 1 2 = opc ||| 0x04#8 ∧
    gainCmd8Single opc 2 2 = opc ||| 0x02#8 ∧ gainCmd8Single opc 3 2 = opc ||| 0x01#8 ∧
    (∀ ch, ch ≤ 3 → gainCmd8Single opc ch 1 = gainCmd8All opc 1) ∧
    gainCmd8Single opc 0 2 ||| gainCmd8Single opc 1 2 ||| gainCmd8Single opc 2 2 ||| gainCmd8Single opc 3 2
      = gainCmd8All opc 2

/-- 20_memory.md R37: TBANK keeps five bits of the address and puts the bank in bit 5. -/
def Obligations.BankByteIsBankAndFiveAddressBits : Prop :=
  ∀ a : Nat, (tbank a .ram).toNat = a % 32 ∧ (tbank a .eeprom).toNat = 32 + a % 32

/-- 20_memory.md R38, 92_eei_decisions.md D25: under a well-formed configuration the mask of FIRST2 never acts. -/
def Obligations.FirstByteMaskNeverActs : Prop :=
  ∀ c : Config, c.failedCheck = none →
    (first2 c.dac2CmdGain c.dac2RegGain).toNat = (c.dac2CmdGain <<< 1) ||| (c.dac2RegGain <<< 3) ∧
    ∀ channel, channel ≤ 1 → (first2 c.dac2CmdOut channel).toNat = (c.dac2CmdOut <<< 1) ||| (channel <<< 3)

/-- 40_codec_functions.md R81: the formulas, the range, and that every value is ten times an odd number. -/
def Obligations.CelsiusLine : Prop :=
  ∀ low high : Byte,
    raw16 low high = 256 * high.toNat + low.toNat ∧
    celsius (raw16 low high) = 20 * (256 * (high.toNat : Int) + low.toNat) - 273150 ∧
    -273150 ≤ celsius (raw16 low high) ∧ celsius (raw16 low high) ≤ 1037550 ∧
    (∃ n, celsius (raw16 low high) = 10 * (2 * n + 1)) ∧
    celsius (raw16 low high) ∉ [0, 40000, 60000, 82000, 100000]

/-- 40_codec_functions.md R82: three tiers in order, strict, and the boundary cases it names. -/
def Obligations.CorrectionTiers : Prop :=
  (∀ t : Int,
    (82000 < t → correct t = t - 6000) ∧ (60000 < t → t ≤ 82000 → correct t = t - 4500) ∧
    (40000 < t → t ≤ 60000 → correct t = t - 2000) ∧ (t ≤ 40000 → correct t = t)) ∧
  correct 82000 = 77500 ∧ correct 82010 = 76010 ∧ correct 60000 = 58000 ∧ correct 40000 = 40000 ∧
  correct 40010 = 38010 ∧ correct (-999000) = -999000

/-- 40_codec_functions.md R83: the floor, exact on multiples of 5, and the values of the read path. -/
def Obligations.FahrenheitLine : Prop :=
  (∀ t : Int, 5 * (c2f t - 32000) ≤ 9 * t ∧ 9 * t < 5 * (c2f t - 32000) + 5 ∧
    (t % 5 = 0 → 5 * (c2f t - 32000) = 9 * t)) ∧
  (∀ raw : Nat, c2f (celsius raw) = 36 * (raw : Int) - 459670) ∧
  c2f 0 = 32000 ∧ c2f 100000 = 212000 ∧ c2f (-999000) = -1766200

/-- 40_codec_functions.md R84: the sentinel lies below every temperature, before and after the Fahrenheit formula. -/
def Obligations.SentinelBelowEveryTemperature : Prop :=
  sentinel = -999000 ∧ c2f sentinel = -1766200 ∧ correct sentinel = sentinel ∧
  celsius 0 = -273150 ∧ c2f (celsius 0) = -459670 ∧
  ∀ raw : Nat, celsius 0 ≤ celsius raw ∧ c2f (celsius 0) ≤ c2f (celsius raw) ∧ sentinel < celsius raw ∧
    c2f sentinel < c2f (celsius raw)

/-- 40_codec_functions.md R86, 30_encoding.md R55: the 48-bit VALUE loses nothing of any reachable result. -/
def Obligations.ValueFieldLosesNothing : Prop :=
  (∀ raw : Nat, raw < 65536 →
    (sext48 (celsius raw)).toInt = celsius raw ∧ (sext48 (c2f (celsius raw))).toInt = c2f (celsius raw) ∧
    (sext48 (correct (celsius raw))).toInt = correct (celsius raw)) ∧
  (sext48 sentinel).toInt = sentinel ∧ (sext48 (c2f sentinel)).toInt = c2f sentinel ∧
  (∀ code rr : Nat, code < 65536 → rr < 2 ^ 32 → (zext48 (adcVolt code rr)).toNat = adcVolt code rr)

/-! ### The 8-channel DAC -/

/-- 41_dac8.md R90, the whole rule. The last clause is under the spec's default of the switch of D18. -/
def Obligations.Dac8SetAllGainRule : Prop :=
  (∀ (a b : Byte) (v : BitVec 32),
    decode (commandWord 0x10#8 a b v) = .ok (.dac8SetAllGain b.toNat)) ∧
  ∀ (s : State) (gain : Nat) (t : Transaction),
    t = ⟨.write, BitVec.ofNat 7 s.cfg.dac8Addr,
      [if gain = 2 then s.cfg.dac8GainOpc ||| 0x0F#8 else s.cfg.dac8GainOpc], 0⟩ →
    (gain ≠ 1 ∧ gain ≠ 2 →
      exec (.dac8SetAllGain gain) s = .next (s.ended 0x02#8 0x0300000000000000#64)) ∧
    (gain = 1 ∨ gain = 2 → s.replyAt 0 0 = .ok [] →
      exec (.dac8SetAllGain gain) s =
        .next { s.issued t 1 with dac8Gain := BitVec.ofNat 8 gain, responses := s.responses ++ [0#64] }) ∧
    (gain = 1 ∨ gain = 2 → s.replyAt 0 0 = .fail → s.cfg.variants.gainCommitBeforeWrite = true →
      exec (.dac8SetAllGain gain) s =
        .next ({ s.issued t 1 with dac8Gain := BitVec.ofNat 8 gain }.ended 0x04#8 0x0700000000000000#64))

/-- 41_dac8.md R91, the whole rule, under the spec's defaults of the switches of D17 and D18. -/
def Obligations.Dac8SetSingleGainRule : Prop :=
  (∀ (a b : Byte) (v : BitVec 32),
    decode (commandWord 0x11#8 a b v) = .ok (.dac8SetSingleGain a.toNat b.toNat)) ∧
  ∀ (s : State) (channel gain : Nat) (t : Transaction),
    t = ⟨.write, BitVec.ofNat 7 s.cfg.dac8Addr,
      [s.cfg.dac8GainOpc ||| BitVec.ofNat 8 ((gain - 1) * 2 ^ (3 - channel))], 0⟩ →
    (7 < channel →
      exec (.dac8SetSingleGain channel gain) s = .next (s.ended 0x02#8 0x0200000000000000#64)) ∧
    (channel ≤ 7 → gain ≠ 1 ∧ gain ≠ 2 →
      exec (.dac8SetSingleGain channel gain) s = .next (s.ended 0x02#8 0x0300000000000000#64)) ∧
    (4 ≤ channel → channel ≤ 7 → gain = 1 ∨ gain = 2 →
      exec (.dac8SetSingleGain channel gain) s = .next (s.ended 0x02#8 0x0600000000000000#64)) ∧
    (channel ≤ 3 → gain = 1 ∨ gain = 2 → s.cfg.variants.singleGainUpdatesShadow = true → s.replyAt 0 0 = .ok [] →
      exec (.dac8SetSingleGain channel gain) s =
        .next { s.issued t 1 with dac8Gain := BitVec.ofNat 8 gain, responses := s.responses ++ [0#64] }) ∧
    (channel ≤ 3 → gain = 1 ∨ gain = 2 → s.cfg.variants.singleGainUpdatesShadow = true → s.replyAt 0 0 = .fail →
      s.cfg.variants.gainCommitBeforeWrite = true →
      exec (.dac8SetSingleGain channel gain) s =
        .next ({ s.issued t 1 with dac8Gain := BitVec.ofNat 8 gain }.ended 0x04#8 0x0700000000000000#64))

/-- 41_dac8.md R92, the whole rule, with DACCODE8 and the split written out (40_codec_functions.md R70, R74). -/
def Obligations.Dac8OutputVoltDcRule : Prop :=
  (∀ (a b : Byte) (v : BitVec 32),
    decode (commandWord 0x12#8 a b v) = .ok (.dac8OutputVoltDc a.toNat v.toNat)) ∧
  ∀ (s : State) (channel volt q code : Nat),
    q = volt * 4096 * s.dac8Gain.toNat / s.cfg.dac8Vref.toNat → code = (if q = 4096 then 4095 else q) →
    (7 < channel →
      exec (.dac8OutputVoltDc channel volt) s = .next (s.ended 0x02#8 0x0200000000000000#64)) ∧
    (channel ≤ 7 → s.cfg.dac8Vref.toNat < volt →
      exec (.dac8OutputVoltDc channel volt) s = .next (s.ended 0x02#8 0x0400000000000000#64)) ∧
    (∀ (h : channel < 8) (t : Transaction),
      t = ⟨.write, BitVec.ofNat 7 s.cfg.dac8Addr,
        [s.cfg.dac8ChCmd[channel], BitVec.ofNat 8 (code / 256), BitVec.ofNat 8 (code % 256)], 0⟩ →
      volt ≤ s.cfg.dac8Vref.toNat →
      (s.replyAt 0 0 = .ok [] →
        exec (.dac8OutputVoltDc channel volt) s =
          .next { s.issued t 1 with responses := s.responses ++ [0#64] }) ∧
      (s.replyAt 0 0 = .fail →
        exec (.dac8OutputVoltDc channel volt) s = .next ((s.issued t 1).ended 0x04#8 0x0700000000000000#64)))

/-- 41_dac8.md R93 and 42_dac2.md R103, the whole rules: the shadow gains keep their values. -/
def Obligations.OutputResetRules : Prop :=
  (∀ (a b : Byte) (v : BitVec 32),
    decode (commandWord 0x13#8 a b v) = .ok .dac8OutputReset ∧
    decode (commandWord 0x23#8 a b v) = .ok .dac2OutputReset) ∧
  ∀ (s : State) (t8 t2 : Transaction),
    t8 = ⟨.write, BitVec.ofNat 7 s.cfg.dac8Addr, [0x00#8, 0x00#8], 0⟩ →
    t2 = ⟨.write, BitVec.ofNat 7 s.cfg.dac2Addr, [0x00#8, 0x00#8], 0⟩ →
    (s.replyAt 0 0 = .ok [] →
      exec .dac8OutputReset s = .next { s.issued t8 1 with responses := s.responses ++ [0#64] } ∧
      exec .dac2OutputReset s = .next { s.issued t2 1 with responses := s.responses ++ [0#64] }) ∧
    (s.replyAt 0 0 = .fail →
      exec .dac8OutputReset s = .next ((s.issued t8 1).ended 0x04#8 0x0700000000000000#64) ∧
      exec .dac2OutputReset s = .next ((s.issued t2 1).ended 0x04#8 0x0700000000000000#64))

/-! ### The 2-channel gain DAC -/

/-- 42_dac2.md R100 and R101, the whole rules, for both commands. The last clause is under the spec's default of the
switch of D18. -/
def Obligations.Dac2SetGainRules : Prop :=
  (∀ (a b : Byte) (v : BitVec 32),
    decode (commandWord 0x20#8 a b v) = .ok (.dac2SetAllGain b.toNat) ∧
    decode (commandWord 0x21#8 a b v) = .ok (.dac2SetSingleGain b.toNat)) ∧
  ∀ (s : State) (gain : Nat) (i : Instr) (t : Transaction),
    i = .dac2SetAllGain gain ∨ i = .dac2SetSingleGain gain →
    t = ⟨.write, BitVec.ofNat 7 s.cfg.dac2Addr,
      [first2 s.cfg.dac2CmdGain s.cfg.dac2RegGain, 0x00#8, if gain = 2 then 0xFF#8 else 0x00#8], 0⟩ →
    (gain ≠ 1 ∧ gain ≠ 2 → exec i s = .next (s.ended 0x02#8 0x0300000000000000#64)) ∧
    (gain = 1 ∨ gain = 2 → s.replyAt 0 0 = .ok [] →
      exec i s =
        .next { s.issued t 1 with dac2Gain := BitVec.ofNat 8 gain, responses := s.responses ++ [0#64] }) ∧
    (gain = 1 ∨ gain = 2 → s.replyAt 0 0 = .fail → s.cfg.variants.gainCommitBeforeWrite = true →
      exec i s =
        .next ({ s.issued t 1 with dac2Gain := BitVec.ofNat 8 gain }.ended 0x04#8 0x0700000000000000#64))

/-- 42_dac2.md R102, the whole rule, with DACCODE2 and the split written out (40_codec_functions.md R72, R74). -/
def Obligations.Dac2OutputVoltDcRule : Prop :=
  (∀ (a b : Byte) (v : BitVec 32),
    decode (commandWord 0x22#8 a b v) = .ok (.dac2OutputVoltDc a.toNat v.toNat)) ∧
  ∀ (s : State) (channel volt code : Nat) (t : Transaction),
    code = volt * 255 * s.dac2Gain.toNat / s.cfg.dac2Vref.toNat →
    t = ⟨.write, BitVec.ofNat 7 s.cfg.dac2Addr,
      [first2 s.cfg.dac2CmdOut channel, BitVec.ofNat 8 (code / 256), BitVec.ofNat 8 (code % 256)], 0⟩ →
    (1 < channel →
      exec (.dac2OutputVoltDc channel volt) s = .next (s.ended 0x02#8 0x0200000000000000#64)) ∧
    (channel ≤ 1 → s.cfg.dac2Vref.toNat < volt →
      exec (.dac2OutputVoltDc channel volt) s = .next (s.ended 0x02#8 0x0400000000000000#64)) ∧
    (channel ≤ 1 → volt ≤ s.cfg.dac2Vref.toNat → s.replyAt 0 0 = .ok [] →
      exec (.dac2OutputVoltDc channel volt) s =
        .next { s.issued t 1 with responses := s.responses ++ [0#64] }) ∧
    (channel ≤ 1 → volt ≤ s.cfg.dac2Vref.toNat → s.replyAt 0 0 = .fail →
      exec (.dac2OutputVoltDc channel volt) s = .next ((s.issued t 1).ended 0x04#8 0x0700000000000000#64))

/-! ### The ADC -/

/-- 43_adc.md R110, the whole rule, with ADCCODE and ADCVOLT written out (40_codec_functions.md R79). -/
def Obligations.AdcReadRule : Prop :=
  (∀ (a b : Byte) (v : BitVec 32),
    decode (commandWord 0x30#8 a b v) = .ok .adcRead) ∧
  ∀ (s : State) (t : Transaction), t = ⟨.read, BitVec.ofNat 7 s.cfg.adcAddr, [], 2⟩ →
    (∀ b0 b1 : Byte, s.replyAt 2 0 = .ok [b0, b1] →
      exec .adcRead s =
        .next { s.issued t 1 with
          responses := s.responses ++
            [0#16 ++ BitVec.ofNat 48 ((256 * b0.toNat + b1.toNat) * s.cfg.adcVref.toNat / 4095)] }) ∧
    (s.replyAt 2 0 = .fail →
      exec .adcRead s = .next ((s.issued t 1).ended 0x04#8 0x0700000000000000#64))

/-! ### The temperature sensor -/

/-- 44_temp.md R116, R117, the whole rules for TMP.READ: after k failures and an answer, after five failures, and with a
register type that is none. -/
def Obligations.TmpReadRule : Prop :=
  (∀ (a b : Byte) (v : BitVec 32),
    decode (commandWord 0x40#8 a b v) = .ok (.tmpRead a.toNat b.toNat)) ∧
  ∀ (s : State) (registerAddress registerType : Nat) (t : Transaction),
    t = ⟨.writeRead, BitVec.ofNat 7 s.cfg.tmpAddr,
      [BitVec.ofNat 8 (registerAddress % 32 + 32 * registerType)], 3⟩ →
    (1 < registerType →
      exec (.tmpRead registerAddress registerType) s = .next (s.ended 0x02#8 0x0500000000000000#64)) ∧
    (registerType ≤ 1 → ∀ (k : Nat) (low high pec : Byte), k ≤ 4 → (∀ j < k, s.replyAt 3 j = .fail) →
      s.replyAt 3 k = .ok [low, high, pec] →
      exec (.tmpRead registerAddress registerType) s =
        .next { s.issued t (k + 1) with
          responses := s.responses ++
            [0#16 ++ BitVec.ofInt 48 (20 * (256 * (high.toNat : Int) + low.toNat) - 273150)] }) ∧
    (registerType ≤ 1 → (∀ j < 5, s.replyAt 3 j = .fail) →
      exec (.tmpRead registerAddress registerType) s =
        .next ((s.issued t 5).ended 0x08#8 (0#16 ++ BitVec.ofInt 48 (-999000))))

/-- 44_temp.md R120, R122, the whole rules: the Celsius reads. -/
def Obligations.CelsiusReadRules : Prop :=
  (∀ (a b : Byte) (v : BitVec 32),
    decode (commandWord 0x41#8 a b v) = .ok .tmpReadObjC ∧
    decode (commandWord 0x43#8 a b v) = .ok .tmpReadAmbC) ∧
  ∀ (s : State) (i : Instr) (reg : Byte) (t : Transaction),
    (i = .tmpReadObjC ∧ reg = s.cfg.tmpRegObj) ∨ (i = .tmpReadAmbC ∧ reg = s.cfg.tmpRegAmb) →
    t = ⟨.writeRead, BitVec.ofNat 7 s.cfg.tmpAddr, [reg &&& 0x1F#8], 3⟩ →
    (∀ (k : Nat) (low high pec : Byte), k ≤ 4 → (∀ j < k, s.replyAt 3 j = .fail) →
      s.replyAt 3 k = .ok [low, high, pec] →
      exec i s =
        .next { s.issued t (k + 1) with
          responses := s.responses ++
            [0#16 ++ BitVec.ofInt 48 (20 * (256 * (high.toNat : Int) + low.toNat) - 273150)] }) ∧
    ((∀ j < 5, s.replyAt 3 j = .fail) →
      exec i s = .next ((s.issued t 5).ended 0x08#8 (0#16 ++ BitVec.ofInt 48 (-999000))))

/-- 44_temp.md R121, R123, the whole rules: the Fahrenheit reads. The last clause is under the spec's default of the
switch of U4: the sentinel is converted like any other value. -/
def Obligations.FahrenheitReadRules : Prop :=
  (∀ (a b : Byte) (v : BitVec 32),
    decode (commandWord 0x42#8 a b v) = .ok .tmpReadObjF ∧
    decode (commandWord 0x44#8 a b v) = .ok .tmpReadAmbF) ∧
  ∀ (s : State) (i : Instr) (reg : Byte) (t : Transaction),
    (i = .tmpReadObjF ∧ reg = s.cfg.tmpRegObj) ∨ (i = .tmpReadAmbF ∧ reg = s.cfg.tmpRegAmb) →
    t = ⟨.writeRead, BitVec.ofNat 7 s.cfg.tmpAddr, [reg &&& 0x1F#8], 3⟩ →
    (∀ (k : Nat) (low high pec : Byte), k ≤ 4 → (∀ j < k, s.replyAt 3 j = .fail) →
      s.replyAt 3 k = .ok [low, high, pec] →
      exec i s =
        .next { s.issued t (k + 1) with
          responses := s.responses ++
            [0#16 ++ BitVec.ofInt 48 (36 * (256 * (high.toNat : Int) + low.toNat) - 459670)] }) ∧
    ((∀ j < 5, s.replyAt 3 j = .fail) → s.cfg.variants.fSpecialCasesSentinel = false →
      exec i s = .next ((s.issued t 5).ended 0x08#8 (0#16 ++ BitVec.ofInt 48 (-1766200))))

/-- 44_temp.md R124, the whole rule: the corrected object temperature, the thresholds compared with the uncorrected
Celsius value. -/
def Obligations.GetObjRule : Prop :=
  (∀ (a b : Byte) (v : BitVec 32),
    decode (commandWord 0x45#8 a b v) = .ok .tmpGetObj) ∧
  ∀ (s : State) (t : Transaction),
    t = ⟨.writeRead, BitVec.ofNat 7 s.cfg.tmpAddr, [s.cfg.tmpRegObj &&& 0x1F#8], 3⟩ →
    (∀ (k : Nat) (low high pec : Byte) (c : Int), k ≤ 4 → (∀ j < k, s.replyAt 3 j = .fail) →
      s.replyAt 3 k = .ok [low, high, pec] →
      c = 20 * (256 * (high.toNat : Int) + low.toNat) - 273150 →
      exec .tmpGetObj s =
        .next { s.issued t (k + 1) with
          responses := s.responses ++
            [0#16 ++ BitVec.ofInt 48
              (if 82000 < c then c - 6000 else if 60000 < c then c - 4500 else if 40000 < c then c - 2000
                else c)] }) ∧
    ((∀ j < 5, s.replyAt 3 j = .fail) →
      exec .tmpGetObj s = .next ((s.issued t 5).ended 0x08#8 (0#16 ++ BitVec.ofInt 48 (-999000))))

/-- 44_temp.md R126, R127, the whole rules: the flag commands, from either value of the flag (R115). -/
def Obligations.PollFlagRules : Prop :=
  (∀ (a b : Byte) (v : BitVec 32),
    decode (commandWord 0x46#8 a b v) = .ok .tmpReadStart ∧
    decode (commandWord 0x47#8 a b v) = .ok .tmpReadStop) ∧
  ∀ s : State,
    exec .tmpReadStart s = .next { s with pollActive := 1#1, responses := s.responses ++ [1#64] } ∧
    exec .tmpReadStop s = .next { s with pollActive := 0#1, responses := s.responses ++ [0#64] }

/-! ### Failures, over all commands -/

/-- 60_exceptions.md R132, R136: the first violated precondition, in the order of checking, is the status; nothing is
issued and no state is written but ERRSTAT.PRE. -/
def Obligations.PreconditionAbortChangesOnlyErrstat : Prop :=
  ∀ (i : Instr) (s : State) (st : Status), i.violated s.cfg = some st →
    exec i s = .next (s.ended 0x02#8 (st.code ++ 0#56))

/-- 60_exceptions.md R133: a failed write or read of a DAC or ADC command is in the trace once, is not repeated, sets
XPORT, and leaves the shadow gain the command wrote. -/
def Obligations.TransportFailureIsReportedOnce : Prop :=
  ∀ (i : Instr) (s : State) (sh : TransactionShape),
    i.transactionShape s.cfg = some sh → sh.kind ≠ .writeRead → i.violated s.cfg = none →
    s.replyAt sh.rdlen 0 = .fail → s.cfg.variants = Variants.documented →
    ∃ t u, shapeOf t = sh ∧ exec i s = .next u ∧ u.trace = s.trace ++ [t] ∧ u.answers = s.answers.drop 1 ∧
      u.errstat = s.errstat ||| 0x04#8 ∧ u.responses = s.responses ++ [0x0700000000000000#64] ∧
      u.inFlight = s.inFlight ∧ u.pollActive = s.pollActive ∧
      (u.dac8Gain = match i with
        | .dac8SetAllGain gain => BitVec.ofNat 8 gain
        | .dac8SetSingleGain _ gain => BitVec.ofNat 8 gain
        | _ => s.dac8Gain) ∧
      (u.dac2Gain = match i with
        | .dac2SetAllGain gain => BitVec.ofNat 8 gain
        | .dac2SetSingleGain gain => BitVec.ofNat 8 gain
        | _ => s.dac2Gain)

/-- 70_reset_and_hazards.md R165: a command one of whose transactions is never answered, those before it having failed,
never completes; the transaction is in flight, and no response is produced. The form is the model's (log 5). -/
def Obligations.SilentTransportHangsTheCommand : Prop :=
  ∀ (i : Instr) (s : State) (sh : TransactionShape) (k : Nat),
    i.transactionShape s.cfg = some sh → i.violated s.cfg = none → k < i.mostTransactions →
    (∀ j < k, s.replyAt sh.rdlen j = .fail) → s.replyAt sh.rdlen k = .never →
    ∃ t u, shapeOf t = sh ∧ exec i s = .next u ∧ u.inFlight = some t ∧
      u.trace = s.trace ++ List.replicate (k + 1) t ∧ u.responses = s.responses ∧ u.errstat = s.errstat ∧
      u.pollActive = s.pollActive

/-- 60_exceptions.md R135: a command that produces a response ends with a status of its row, and with VALUE 0 unless the
status is OK; one that produces none is hung on a transaction of its own that the transport never answers
(70_reset_and_hazards.md R165; the form of it is the model's, log 5). -/
def Obligations.CommandEndsWithAStatusOfItsRow : Prop :=
  ∀ (i : Instr) (s u : State), exec i s = .next u →
    (∃ st v, st ∈ i.canEndWith ∧ u.responses = s.responses ++ [st.code ++ 0#8 ++ v] ∧ (st ≠ .ok → v = 0#48) ∧
      u.inFlight = s.inFlight) ∨
    (s.SilentTo i ∧ ∃ t, i.transactionShape s.cfg = some (shapeOf t) ∧ u.responses = s.responses ∧ u.inFlight = some t)

/-- 20_memory.md R36, R41, R42: a command issues at most its number of transactions, each of its row's shape, appended to
the trace in issue order, and consumes one answer for each. -/
def Obligations.CommandIssuesTransactionsOfItsRow : Prop :=
  ∀ (i : Instr) (s u : State), exec i s = .next u →
    ∃ issued : List Transaction,
      u.trace = s.trace ++ issued ∧ issued.length ≤ i.mostTransactions ∧ u.answers = s.answers.drop issued.length ∧
      u.busCount = s.busCount + issued.length ∧ ∀ t ∈ issued, i.transactionShape s.cfg = some (shapeOf t)

/-- 00_scope.md R6, 60_exceptions.md R137: every command takes a next state, whatever the state and the operands. -/
def Obligations.EveryCommandTakesANextState : Prop :=
  ∀ (i : Instr) (s : State), ∃ u, exec i s = .next u

/-- 10_state.md R13, R14, R23: the only writers of the gains and of the flag; no command writes the configuration. -/
def Obligations.OnlyTheNamedCommandsWriteARegister : Prop :=
  ∀ (i : Instr) (s u : State), exec i s = .next u →
    u.cfg = s.cfg ∧ u.inputs = s.inputs ∧
    (u.dac8Gain = s.dac8Gain ∨
      ∃ gain, u.dac8Gain = BitVec.ofNat 8 gain ∧ (gain = 1 ∨ gain = 2) ∧
        (i = .dac8SetAllGain gain ∨ ∃ channel, i = .dac8SetSingleGain channel gain)) ∧
    (u.dac2Gain = s.dac2Gain ∨
      ∃ gain, u.dac2Gain = BitVec.ofNat 8 gain ∧ (gain = 1 ∨ gain = 2) ∧
        (i = .dac2SetAllGain gain ∨ i = .dac2SetSingleGain gain)) ∧
    (u.pollActive = s.pollActive ∨ i = .tmpReadStart ∨ i = .tmpReadStop)

/-- 10_state.md R14, R15, 44_temp.md R115: no command's behaviour depends on POLL_ACTIVE or on ERRSTAT. -/
def Obligations.FlagAndErrstatInfluenceNothing : Prop :=
  ∀ (i : Instr) (s u : State) (poll : BitVec 1) (err : Byte), exec i s = .next u →
    ∃ u', exec i { s with pollActive := poll, errstat := err } = .next u' ∧
      u'.trace = u.trace ∧ u'.responses = u.responses ∧ u'.answers = u.answers ∧ u'.dac8Gain = u.dac8Gain ∧
      u'.dac2Gain = u.dac2Gain ∧ u'.inFlight = u.inFlight

/-- 70_reset_and_hazards.md R159: the single-channel gain write sets the one shadow gain, and the next output on any
channel uses it. -/
def Obligations.SingleGainReachesEveryChannel : Prop :=
  ∀ (s : State) (channel gain out volt q code : Nat) (h : out < 8),
    channel ≤ 3 → gain = 1 ∨ gain = 2 → s.cfg.variants.singleGainUpdatesShadow = true →
    s.replyAt 0 0 = .ok [] → s.replyAt 0 1 = .ok [] → volt ≤ s.cfg.dac8Vref.toNat →
    q = volt * 4096 * gain / s.cfg.dac8Vref.toNat → code = (if q = 4096 then 4095 else q) →
    ∃ u v first, exec (.dac8SetSingleGain channel gain) s = .next u ∧
      exec (.dac8OutputVoltDc out volt) u = .next v ∧
      v.trace = s.trace ++
        [first, ⟨.write, BitVec.ofNat 7 s.cfg.dac8Addr,
          [s.cfg.dac8ChCmd[out], BitVec.ofNat 8 (code / 256), BitVec.ofNat 8 (code % 256)], 0⟩]

/-! ### The optional switches (log 10) -/

/-- 92_eei_decisions.md D18, the alternative: the shadow gain is written on success only. The model's choice of what the
switch does is log 11. -/
def Obligations.GainCommittedOnSuccessOnly : Prop :=
  ∀ (s u : State) (i : Instr) (gain channel : Nat),
    i = .dac8SetAllGain gain ∨ i = .dac8SetSingleGain channel gain ∨ i = .dac2SetAllGain gain ∨
      i = .dac2SetSingleGain gain →
    s.cfg.variants.gainCommitBeforeWrite = false → s.replyAt 0 0 ≠ .ok [] → exec i s = .next u →
    u.dac8Gain = s.dac8Gain ∧ u.dac2Gain = s.dac2Gain

/-- 92_eei_decisions.md D17, the alternative: the single-channel gain write leaves the shadow gain alone (log 11). -/
def Obligations.SingleGainLeavesShadowAlone : Prop :=
  ∀ (s u : State) (channel gain : Nat), s.cfg.variants.singleGainUpdatesShadow = false →
    exec (.dac8SetSingleGain channel gain) s = .next u → u.dac8Gain = s.dac8Gain ∧ u.dac2Gain = s.dac2Gain

/-- 93_implementation_defined.md U4, the alternative: the Fahrenheit reads return -999000 on five failures (log 11). -/
def Obligations.FahrenheitSpecialCaseReturnsSentinel : Prop :=
  ∀ (s : State) (i : Instr), i = .tmpReadObjF ∨ i = .tmpReadAmbF →
    s.cfg.variants.fSpecialCasesSentinel = true → (∀ j < 5, s.replyAt 3 j = .fail) →
    ∃ u, exec i s = .next u ∧ u.responses = s.responses ++ [0#16 ++ BitVec.ofInt 48 (-999000)] ∧
      u.errstat = s.errstat ||| 0x08#8

/-! ### The step -/

/-- 00_scope.md R6, 30_encoding.md R53: a step at a command word that decodes runs that command, the word being taken
from the host's events. -/
def Obligations.StepRunsTheDecodedCommand : Prop :=
  ∀ (s : State) (w : CommandWord) (rest : List Input) (i : Instr),
    s.Ready → s.inputs = .command w :: rest → decode w = .ok i →
    i.wellFormed = true ∧ step s = exec i { s with inputs := rest }

/-- 60_exceptions.md R131: an illegal word sets ILL, answers E_ILLEGAL, and does nothing else. -/
def Obligations.IllegalWordOnlySetsIll : Prop :=
  ∀ (s : State) (w : CommandWord) (rest : List Input) (e : DecodeError),
    s.Ready → s.inputs = .command w :: rest → decode w = .error e →
    step s = .next ({ s with inputs := rest }.ended 0x01#8 0x0100000000000000#64)

/-- 30_encoding.md R54, 60_exceptions.md R138: every command word, legal or not, is accepted and gives one response,
unless the word is a command that the transport never answers (70_reset_and_hazards.md R165; the form of it is the
model's, log 5); after a response the RCU is ready again. -/
def Obligations.EveryWordGivesOneResponse : Prop :=
  ∀ (s : State) (w : CommandWord) (rest : List Input), s.Ready → s.inputs = .command w :: rest →
    ∃ u, step s = .next u ∧ u.inputs = rest ∧ u.cfg = s.cfg ∧
      ((u.Ready ∧ ∃ rw, u.responses = s.responses ++ [rw]) ∨
        (∃ i t, decode w = .ok i ∧ s.SilentTo i ∧ i.transactionShape s.cfg = some (shapeOf t) ∧
          u.inFlight = some t ∧ u.responses = s.responses))

/-- 60_exceptions.md R149: with no event the RCU is idle and holds its state. -/
def Obligations.IdleHoldsState : Prop :=
  ∀ s : State, s.Ready → s.inputs = [] → step s = .next s

/-- 70_reset_and_hazards.md R165: once a transaction is never answered, no step but a reset is possible. The form of the
stop is the model's choice (log 5). -/
def Obligations.HungMachineIsStuckUntilReset : Prop :=
  ∀ (s : State) (t : Transaction), s.cfg.failedCheck = none → s.inFlight = some t → s.NextIsNoReset →
    step s = .fault .transportNeverAnswers

/-- 70_reset_and_hazards.md R150, 10_state.md R22: reset with a well-formed configuration. That it is accepted in every
state, also while a transaction is never answered or under an ill-formed configuration, that nothing is in flight after
it, and that the event carries its configuration, is the model's reading (log 8). -/
def Obligations.ResetLoadsTheConfiguration : Prop :=
  ∀ (s : State) (c : Config) (rest : List Input), s.inputs = .reset c :: rest → c.failedCheck = none →
    ∃ u, step s = .next u ∧ u.cfg = c ∧ u.dac8Gain = c.dac8Gain0 ∧ u.dac2Gain = c.dac2Gain0 ∧ u.pollActive = 0#1 ∧
      u.errstat = 0x00#8 ∧ u.inFlight = none ∧ u.trace = [] ∧ u.responses = []

/-- 10_state.md R12: the well-formed configurations, exactly. -/
def Obligations.WellFormedConfigurations : Prop :=
  ∀ c : Config, c.failedCheck = none ↔
    c.dac8Addr ≤ 127 ∧ c.dac2Addr ≤ 127 ∧ c.adcAddr ≤ 127 ∧ c.tmpAddr ≤ 127 ∧
    c.dac8Vref ≠ 0#32 ∧ c.dac2Vref ≠ 0#32 ∧
    (c.dac8Gain0 = 1#8 ∨ c.dac8Gain0 = 2#8) ∧ (c.dac2Gain0 = 1#8 ∨ c.dac2Gain0 = 2#8) ∧
    c.dac8GainOpc &&& 0x0F#8 = 0#8 ∧ (c.dac2CmdGain <<< 1) ||| (c.dac2RegGain <<< 3) < 256 ∧
    (c.dac2CmdOut <<< 1) ||| (1 <<< 3) < 256

/-- 10_state.md R12: an ill-formed configuration, in force or presented by a reset, is refused by the failed check. -/
def Obligations.BadConfigurationIsRefusedByName : Prop :=
  (∀ (s : State) (failed : ConfigCheck), s.cfg.failedCheck = some failed → s.NextIsNoReset →
    step s = .refused (.badConfig failed)) ∧
  (∀ (s : State) (c : Config) (rest : List Input) (failed : ConfigCheck),
    s.inputs = .reset c :: rest → c.failedCheck = some failed → step s = .refused (.badConfig failed))

/-- 10_state.md R15: a set bit of ERRSTAT stays set over every step that is no reset. -/
def Obligations.ErrstatIsStickyUntilReset : Prop :=
  ∀ s u : State, s.NextIsNoReset → step s = .next u → s.errstat &&& u.errstat = s.errstat

/-! ### Invariants -/

/-- 10_state.md R20: every step keeps the gains legal and the reserved bits of ERRSTAT zero. -/
def Obligations.StepKeepsGainsLegal : Prop :=
  ∀ s u : State, s.Inv → step s = .next u → u.Inv

/-- 10_state.md R20, R22: the invariant holds after reset with any well-formed configuration, and at `State.reset`. -/
def Obligations.ResetHasLegalGains : Prop :=
  State.reset.Inv ∧ ∀ c : Config, c.failedCheck = none → (State.resetWith c).Inv

/-- 20_memory.md R36, R41: every step keeps every transaction of the trace in the shape of some command's row. -/
def Obligations.StepKeepsTraceLegal : Prop :=
  ∀ s u : State, s.TraceLegal → step s = .next u → u.TraceLegal

/-- 30_encoding.md R54, 60_exceptions.md R130: every step keeps every response word in its form. -/
def Obligations.StepKeepsResponsesLegal : Prop :=
  ∀ s u : State, s.ResponsesLegal → step s = .next u → u.ResponsesLegal

/-- The trace and the responses are legal at reset: both are empty (70_reset_and_hazards.md R150). -/
def Obligations.ResetHasLegalHistory : Prop :=
  State.reset.TraceLegal ∧ State.reset.ResponsesLegal ∧ State.reset.Ready

/-! ### Reset values and the observation port -/

/-- 10_state.md R22: the reset values, for every configuration, with nothing sent to the bus; the documented default of
both gains is 1. -/
def Obligations.ResetValues : Prop :=
  State.reset.dac8Gain = 1#8 ∧ State.reset.dac2Gain = 1#8 ∧
  ∀ c : Config,
    (State.resetWith c).dac8Gain = c.dac8Gain0 ∧ (State.resetWith c).dac2Gain = c.dac2Gain0 ∧
    (State.resetWith c).pollActive = 0#1 ∧ (State.resetWith c).errstat = 0x00#8 ∧
    (State.resetWith c).inFlight = none ∧ (State.resetWith c).trace = []

/-- 10_state.md R21: the four registers by number; POLL_ACTIVE reads 0 in bits 7:1. -/
def Obligations.ObservationPortReadsTheRegisters : Prop :=
  ∀ s : State,
    s.readRegister 0 = some s.dac8Gain ∧ s.readRegister 1 = some s.dac2Gain ∧
    s.readRegister 2 = some (if s.pollActive = 1#1 then 0x01#8 else 0x00#8) ∧ s.readRegister 3 = some s.errstat

/-- 60_exceptions.md R146: the Polling Monitor asks for one TMP.GETOBJ exactly when POLL_ACTIVE reads 1. -/
def Obligations.MonitorAsksOnlyWhilePolling : Prop :=
  ∀ s : State,
    (s.pollActive = 1#1 → ∃ w, s.pollMonitorRequest = some w ∧ decode w = .ok .tmpGetObj) ∧
    (s.pollActive = 0#1 → s.pollMonitorRequest = none)
end

