-- ==== Sys2Proof/Laws/Codec.lean ====
section
/-!
SUPPORT. The codec functions in terms of plain arithmetic.
-/
namespace Sys2Proof.Machine

theorem hi_eq (c : Nat) : hi c = BitVec.ofNat 8 (c / 256) := by
  apply BitVec.eq_of_toNat_eq
  simp only [hi, BitVec.toNat_ofNat, Nat.shiftRight_eq_div_pow, show (0xFF : Nat) = 2 ^ 8 - 1 from rfl,
    Nat.and_two_pow_sub_one_eq_mod]
  omega

theorem lo_eq (c : Nat) : lo c = BitVec.ofNat 8 (c % 256) := by
  apply BitVec.eq_of_toNat_eq
  simp only [lo, BitVec.toNat_ofNat, show (0xFF : Nat) = 2 ^ 8 - 1 from rfl, Nat.and_two_pow_sub_one_eq_mod]

theorem shift_or_byte (h l : Byte) : (h.toNat <<< 8) ||| l.toNat = 256 * h.toNat + l.toNat := by
  rw [Nat.shiftLeft_eq, Nat.mul_comm, ← Nat.two_pow_add_eq_or_of_lt (i := 8) l.isLt]

theorem adcCode_eq (b0 b1 : Byte) : adcCode b0 b1 = 256 * b0.toNat + b1.toNat := shift_or_byte b0 b1

theorem raw16_eq (low high : Byte) : raw16 low high = 256 * high.toNat + low.toNat := shift_or_byte high low

theorem raw16_lt (low high : Byte) : raw16 low high < 65536 := by
  have := low.isLt
  have := high.isLt
  rw [raw16_eq]
  omega

/-- On S32 values `sext_48` is the two's complement of 48 bits. -/
theorem sext48_eq (t : Int) (h1 : -2147483648 ≤ t) (h2 : t < 2147483648) : sext48 t = BitVec.ofInt 48 t := by
  apply BitVec.eq_of_toInt_eq
  rw [sext48, BitVec.toInt_signExtend_of_le (by omega), BitVec.toInt_ofInt, BitVec.toInt_ofInt,
    Int.bmod_def, Int.bmod_def]
  norm_num
  omega

end Sys2Proof.Machine
end

