-- ==== Sys2Proof/Laws/State.lean ====
section
/-!
SUPPORT. One lemma per field per update of State, each true by rfl: no later proof unfolds a record update.
-/
namespace Sys2Proof.Machine

@[simp] theorem State.withDac8Gain_cfg (s : State) (g : Nat) : (s.withDac8Gain g).cfg = s.cfg := rfl
@[simp] theorem State.withDac8Gain_dac8Gain (s : State) (g : Nat) : (s.withDac8Gain g).dac8Gain = BitVec.ofNat 8 g :=
    rfl
@[simp] theorem State.withDac8Gain_dac2Gain (s : State) (g : Nat) : (s.withDac8Gain g).dac2Gain = s.dac2Gain := rfl
@[simp] theorem State.withDac8Gain_pollActive (s : State) (g : Nat) : (s.withDac8Gain g).pollActive = s.pollActive :=
    rfl
@[simp] theorem State.withDac8Gain_errstat (s : State) (g : Nat) : (s.withDac8Gain g).errstat = s.errstat := rfl
@[simp] theorem State.withDac8Gain_inFlight (s : State) (g : Nat) : (s.withDac8Gain g).inFlight = s.inFlight := rfl
@[simp] theorem State.withDac8Gain_inputs (s : State) (g : Nat) : (s.withDac8Gain g).inputs = s.inputs := rfl
@[simp] theorem State.withDac8Gain_answers (s : State) (g : Nat) : (s.withDac8Gain g).answers = s.answers := rfl
@[simp] theorem State.withDac8Gain_busCount (s : State) (g : Nat) : (s.withDac8Gain g).busCount = s.busCount := rfl
@[simp] theorem State.withDac8Gain_trace (s : State) (g : Nat) : (s.withDac8Gain g).trace = s.trace := rfl
@[simp] theorem State.withDac8Gain_responses (s : State) (g : Nat) : (s.withDac8Gain g).responses = s.responses := rfl

@[simp] theorem State.withDac2Gain_cfg (s : State) (g : Nat) : (s.withDac2Gain g).cfg = s.cfg := rfl
@[simp] theorem State.withDac2Gain_dac8Gain (s : State) (g : Nat) : (s.withDac2Gain g).dac8Gain = s.dac8Gain := rfl
@[simp] theorem State.withDac2Gain_dac2Gain (s : State) (g : Nat) : (s.withDac2Gain g).dac2Gain = BitVec.ofNat 8 g :=
    rfl
@[simp] theorem State.withDac2Gain_pollActive (s : State) (g : Nat) : (s.withDac2Gain g).pollActive = s.pollActive :=
    rfl
@[simp] theorem State.withDac2Gain_errstat (s : State) (g : Nat) : (s.withDac2Gain g).errstat = s.errstat := rfl
@[simp] theorem State.withDac2Gain_inFlight (s : State) (g : Nat) : (s.withDac2Gain g).inFlight = s.inFlight := rfl
@[simp] theorem State.withDac2Gain_inputs (s : State) (g : Nat) : (s.withDac2Gain g).inputs = s.inputs := rfl
@[simp] theorem State.withDac2Gain_answers (s : State) (g : Nat) : (s.withDac2Gain g).answers = s.answers := rfl
@[simp] theorem State.withDac2Gain_busCount (s : State) (g : Nat) : (s.withDac2Gain g).busCount = s.busCount := rfl
@[simp] theorem State.withDac2Gain_trace (s : State) (g : Nat) : (s.withDac2Gain g).trace = s.trace := rfl
@[simp] theorem State.withDac2Gain_responses (s : State) (g : Nat) : (s.withDac2Gain g).responses = s.responses := rfl

@[simp] theorem State.withPollActive_cfg (s : State) (b : BitVec 1) : (s.withPollActive b).cfg = s.cfg := rfl
@[simp] theorem State.withPollActive_dac8Gain (s : State) (b : BitVec 1) : (s.withPollActive b).dac8Gain = s.dac8Gain :=
    rfl
@[simp] theorem State.withPollActive_dac2Gain (s : State) (b : BitVec 1) : (s.withPollActive b).dac2Gain = s.dac2Gain :=
    rfl
@[simp] theorem State.withPollActive_pollActive (s : State) (b : BitVec 1) : (s.withPollActive b).pollActive = b :=
    rfl
@[simp] theorem State.withPollActive_errstat (s : State) (b : BitVec 1) : (s.withPollActive b).errstat = s.errstat :=
    rfl
@[simp] theorem State.withPollActive_inFlight (s : State) (b : BitVec 1) : (s.withPollActive b).inFlight = s.inFlight :=
    rfl
@[simp] theorem State.withPollActive_inputs (s : State) (b : BitVec 1) : (s.withPollActive b).inputs = s.inputs := rfl
@[simp] theorem State.withPollActive_answers (s : State) (b : BitVec 1) : (s.withPollActive b).answers = s.answers :=
    rfl
@[simp] theorem State.withPollActive_busCount (s : State) (b : BitVec 1) : (s.withPollActive b).busCount = s.busCount :=
    rfl
@[simp] theorem State.withPollActive_trace (s : State) (b : BitVec 1) : (s.withPollActive b).trace = s.trace := rfl
@[simp] theorem State.withPollActive_responses (s : State) (b : BitVec 1) : (s.withPollActive b).responses = s.responses :=
    rfl

@[simp] theorem State.setErr_cfg (s : State) (bits : Byte) : (s.setErr bits).cfg = s.cfg := rfl
@[simp] theorem State.setErr_dac8Gain (s : State) (bits : Byte) : (s.setErr bits).dac8Gain = s.dac8Gain := rfl
@[simp] theorem State.setErr_dac2Gain (s : State) (bits : Byte) : (s.setErr bits).dac2Gain = s.dac2Gain := rfl
@[simp] theorem State.setErr_pollActive (s : State) (bits : Byte) : (s.setErr bits).pollActive = s.pollActive := rfl
@[simp] theorem State.setErr_errstat (s : State) (bits : Byte) : (s.setErr bits).errstat = s.errstat ||| bits := rfl
@[simp] theorem State.setErr_inFlight (s : State) (bits : Byte) : (s.setErr bits).inFlight = s.inFlight := rfl
@[simp] theorem State.setErr_inputs (s : State) (bits : Byte) : (s.setErr bits).inputs = s.inputs := rfl
@[simp] theorem State.setErr_answers (s : State) (bits : Byte) : (s.setErr bits).answers = s.answers := rfl
@[simp] theorem State.setErr_busCount (s : State) (bits : Byte) : (s.setErr bits).busCount = s.busCount := rfl
@[simp] theorem State.setErr_trace (s : State) (bits : Byte) : (s.setErr bits).trace = s.trace := rfl
@[simp] theorem State.setErr_responses (s : State) (bits : Byte) : (s.setErr bits).responses = s.responses := rfl

@[simp] theorem State.deliver_cfg (s : State) (rw : ResponseWord) : (s.deliver rw).cfg = s.cfg := rfl
@[simp] theorem State.deliver_dac8Gain (s : State) (rw : ResponseWord) : (s.deliver rw).dac8Gain = s.dac8Gain := rfl
@[simp] theorem State.deliver_dac2Gain (s : State) (rw : ResponseWord) : (s.deliver rw).dac2Gain = s.dac2Gain := rfl
@[simp] theorem State.deliver_pollActive (s : State) (rw : ResponseWord) : (s.deliver rw).pollActive = s.pollActive :=
    rfl
@[simp] theorem State.deliver_errstat (s : State) (rw : ResponseWord) : (s.deliver rw).errstat = s.errstat := rfl
@[simp] theorem State.deliver_inFlight (s : State) (rw : ResponseWord) : (s.deliver rw).inFlight = s.inFlight := rfl
@[simp] theorem State.deliver_inputs (s : State) (rw : ResponseWord) : (s.deliver rw).inputs = s.inputs := rfl
@[simp] theorem State.deliver_answers (s : State) (rw : ResponseWord) : (s.deliver rw).answers = s.answers := rfl
@[simp] theorem State.deliver_busCount (s : State) (rw : ResponseWord) : (s.deliver rw).busCount = s.busCount := rfl
@[simp] theorem State.deliver_trace (s : State) (rw : ResponseWord) : (s.deliver rw).trace = s.trace := rfl
@[simp] theorem State.deliver_responses (s : State) (rw : ResponseWord) : (s.deliver rw).responses = s.responses ++ [rw] :=
    rfl

@[simp] theorem State.respond_cfg (s : State) (v : BitVec 48) : (s.respond v).cfg = s.cfg := rfl
@[simp] theorem State.respond_dac8Gain (s : State) (v : BitVec 48) : (s.respond v).dac8Gain = s.dac8Gain := rfl
@[simp] theorem State.respond_dac2Gain (s : State) (v : BitVec 48) : (s.respond v).dac2Gain = s.dac2Gain := rfl
@[simp] theorem State.respond_pollActive (s : State) (v : BitVec 48) : (s.respond v).pollActive = s.pollActive := rfl
@[simp] theorem State.respond_errstat (s : State) (v : BitVec 48) : (s.respond v).errstat = s.errstat := rfl
@[simp] theorem State.respond_inFlight (s : State) (v : BitVec 48) : (s.respond v).inFlight = s.inFlight := rfl
@[simp] theorem State.respond_inputs (s : State) (v : BitVec 48) : (s.respond v).inputs = s.inputs := rfl
@[simp] theorem State.respond_answers (s : State) (v : BitVec 48) : (s.respond v).answers = s.answers := rfl
@[simp] theorem State.respond_busCount (s : State) (v : BitVec 48) : (s.respond v).busCount = s.busCount := rfl
@[simp] theorem State.respond_trace (s : State) (v : BitVec 48) : (s.respond v).trace = s.trace := rfl
@[simp] theorem State.respond_responses (s : State) (v : BitVec 48) : (s.respond v).responses = s.responses ++ [responseWord .ok v] :=
    rfl

@[simp] theorem State.abort_cfg (s : State) (st : Status) : (s.abort st).cfg = s.cfg := rfl
@[simp] theorem State.abort_dac8Gain (s : State) (st : Status) : (s.abort st).dac8Gain = s.dac8Gain := rfl
@[simp] theorem State.abort_dac2Gain (s : State) (st : Status) : (s.abort st).dac2Gain = s.dac2Gain := rfl
@[simp] theorem State.abort_pollActive (s : State) (st : Status) : (s.abort st).pollActive = s.pollActive := rfl
@[simp] theorem State.abort_errstat (s : State) (st : Status) : (s.abort st).errstat = s.errstat ||| st.errBit := rfl
@[simp] theorem State.abort_inFlight (s : State) (st : Status) : (s.abort st).inFlight = s.inFlight := rfl
@[simp] theorem State.abort_inputs (s : State) (st : Status) : (s.abort st).inputs = s.inputs := rfl
@[simp] theorem State.abort_answers (s : State) (st : Status) : (s.abort st).answers = s.answers := rfl
@[simp] theorem State.abort_busCount (s : State) (st : Status) : (s.abort st).busCount = s.busCount := rfl
@[simp] theorem State.abort_trace (s : State) (st : Status) : (s.abort st).trace = s.trace := rfl
@[simp] theorem State.abort_responses (s : State) (st : Status) : (s.abort st).responses = s.responses ++ [responseWord st 0#48] :=
    rfl

@[simp] theorem State.issue_cfg (s : State) (t : Transaction) : (s.issue t).cfg = s.cfg := rfl
@[simp] theorem State.issue_dac8Gain (s : State) (t : Transaction) : (s.issue t).dac8Gain = s.dac8Gain := rfl
@[simp] theorem State.issue_dac2Gain (s : State) (t : Transaction) : (s.issue t).dac2Gain = s.dac2Gain := rfl
@[simp] theorem State.issue_pollActive (s : State) (t : Transaction) : (s.issue t).pollActive = s.pollActive := rfl
@[simp] theorem State.issue_errstat (s : State) (t : Transaction) : (s.issue t).errstat = s.errstat := rfl
@[simp] theorem State.issue_inFlight (s : State) (t : Transaction) : (s.issue t).inFlight = s.inFlight := rfl
@[simp] theorem State.issue_inputs (s : State) (t : Transaction) : (s.issue t).inputs = s.inputs := rfl
@[simp] theorem State.issue_answers (s : State) (t : Transaction) : (s.issue t).answers = s.answers.tail := rfl
@[simp] theorem State.issue_busCount (s : State) (t : Transaction) : (s.issue t).busCount = s.busCount + 1 := rfl
@[simp] theorem State.issue_trace (s : State) (t : Transaction) : (s.issue t).trace = s.trace ++ [t] := rfl
@[simp] theorem State.issue_responses (s : State) (t : Transaction) : (s.issue t).responses = s.responses := rfl

@[simp] theorem State.issued_cfg (s : State) (t : Transaction) (n : Nat) : (s.issued t n).cfg = s.cfg := rfl
@[simp] theorem State.issued_dac8Gain (s : State) (t : Transaction) (n : Nat) : (s.issued t n).dac8Gain = s.dac8Gain :=
    rfl
@[simp] theorem State.issued_dac2Gain (s : State) (t : Transaction) (n : Nat) : (s.issued t n).dac2Gain = s.dac2Gain :=
    rfl
@[simp] theorem State.issued_pollActive (s : State) (t : Transaction) (n : Nat) : (s.issued t n).pollActive = s.pollActive :=
    rfl
@[simp] theorem State.issued_errstat (s : State) (t : Transaction) (n : Nat) : (s.issued t n).errstat = s.errstat :=
    rfl
@[simp] theorem State.issued_inFlight (s : State) (t : Transaction) (n : Nat) : (s.issued t n).inFlight = s.inFlight :=
    rfl
@[simp] theorem State.issued_inputs (s : State) (t : Transaction) (n : Nat) : (s.issued t n).inputs = s.inputs := rfl
@[simp] theorem State.issued_answers (s : State) (t : Transaction) (n : Nat) : (s.issued t n).answers = s.answers.drop n :=
    rfl
@[simp] theorem State.issued_busCount (s : State) (t : Transaction) (n : Nat) : (s.issued t n).busCount = s.busCount + n :=
    rfl
@[simp] theorem State.issued_trace (s : State) (t : Transaction) (n : Nat) : (s.issued t n).trace = s.trace ++ List.replicate n t :=
    rfl
@[simp] theorem State.issued_responses (s : State) (t : Transaction) (n : Nat) : (s.issued t n).responses = s.responses :=
    rfl

@[simp] theorem State.hang_cfg (s : State) (t : Transaction) : (s.hang t).cfg = s.cfg := rfl
@[simp] theorem State.hang_dac8Gain (s : State) (t : Transaction) : (s.hang t).dac8Gain = s.dac8Gain := rfl
@[simp] theorem State.hang_dac2Gain (s : State) (t : Transaction) : (s.hang t).dac2Gain = s.dac2Gain := rfl
@[simp] theorem State.hang_pollActive (s : State) (t : Transaction) : (s.hang t).pollActive = s.pollActive := rfl
@[simp] theorem State.hang_errstat (s : State) (t : Transaction) : (s.hang t).errstat = s.errstat := rfl
@[simp] theorem State.hang_inFlight (s : State) (t : Transaction) : (s.hang t).inFlight = some t := rfl
@[simp] theorem State.hang_inputs (s : State) (t : Transaction) : (s.hang t).inputs = s.inputs := rfl
@[simp] theorem State.hang_answers (s : State) (t : Transaction) : (s.hang t).answers = s.answers := rfl
@[simp] theorem State.hang_busCount (s : State) (t : Transaction) : (s.hang t).busCount = s.busCount := rfl
@[simp] theorem State.hang_trace (s : State) (t : Transaction) : (s.hang t).trace = s.trace := rfl
@[simp] theorem State.hang_responses (s : State) (t : Transaction) : (s.hang t).responses = s.responses := rfl

@[simp] theorem State.takeInput_cfg (s : State) : (s.takeInput).cfg = s.cfg := rfl
@[simp] theorem State.takeInput_dac8Gain (s : State) : (s.takeInput).dac8Gain = s.dac8Gain := rfl
@[simp] theorem State.takeInput_dac2Gain (s : State) : (s.takeInput).dac2Gain = s.dac2Gain := rfl
@[simp] theorem State.takeInput_pollActive (s : State) : (s.takeInput).pollActive = s.pollActive := rfl
@[simp] theorem State.takeInput_errstat (s : State) : (s.takeInput).errstat = s.errstat := rfl
@[simp] theorem State.takeInput_inFlight (s : State) : (s.takeInput).inFlight = s.inFlight := rfl
@[simp] theorem State.takeInput_inputs (s : State) : (s.takeInput).inputs = s.inputs.tail := rfl
@[simp] theorem State.takeInput_answers (s : State) : (s.takeInput).answers = s.answers := rfl
@[simp] theorem State.takeInput_busCount (s : State) : (s.takeInput).busCount = s.busCount := rfl
@[simp] theorem State.takeInput_trace (s : State) : (s.takeInput).trace = s.trace := rfl
@[simp] theorem State.takeInput_responses (s : State) : (s.takeInput).responses = s.responses := rfl

@[simp] theorem State.withFetchWord_cfg (s : State) (nbits w : Nat) : (s.withFetchWord nbits w).cfg = s.cfg := rfl
@[simp] theorem State.withFetchWord_dac8Gain (s : State) (nbits w : Nat) : (s.withFetchWord nbits w).dac8Gain = s.dac8Gain :=
    rfl
@[simp] theorem State.withFetchWord_dac2Gain (s : State) (nbits w : Nat) : (s.withFetchWord nbits w).dac2Gain = s.dac2Gain :=
    rfl
@[simp] theorem State.withFetchWord_pollActive (s : State) (nbits w : Nat) : (s.withFetchWord nbits w).pollActive = s.pollActive :=
    rfl
@[simp] theorem State.withFetchWord_errstat (s : State) (nbits w : Nat) : (s.withFetchWord nbits w).errstat = s.errstat :=
    rfl
@[simp] theorem State.withFetchWord_inFlight (s : State) (nbits w : Nat) : (s.withFetchWord nbits w).inFlight = none :=
    rfl
@[simp] theorem State.withFetchWord_inputs (s : State) (nbits w : Nat) : (s.withFetchWord nbits w).inputs = .command (BitVec.ofNat 64 (w % 2 ^ nbits)) :: s.inputs :=
    rfl
@[simp] theorem State.withFetchWord_answers (s : State) (nbits w : Nat) : (s.withFetchWord nbits w).answers = s.answers :=
    rfl
@[simp] theorem State.withFetchWord_busCount (s : State) (nbits w : Nat) : (s.withFetchWord nbits w).busCount = s.busCount :=
    rfl
@[simp] theorem State.withFetchWord_trace (s : State) (nbits w : Nat) : (s.withFetchWord nbits w).trace = s.trace :=
    rfl
@[simp] theorem State.withFetchWord_responses (s : State) (nbits w : Nat) : (s.withFetchWord nbits w).responses = s.responses :=
    rfl

end Sys2Proof.Machine
end

