-- ==== Sys2Proof/Laws/Ops.lean ====
section
/-!
SUPPORT. What each shared operation can do, said once, so that later proofs cite it and unfold nothing.
-/
namespace Sys2Proof.Machine

/-! ### Answers -/

theorem contract_ok_length (a : Answer) (n : Nat) (rx : List Byte) (h : a.contract n = .ok rx) : rx.length = n := by
  cases a with
  | ok l =>
    unfold Answer.contract at h
    dsimp only at h
    split at h
    · cases h; assumption
    · cases h
  | fail => cases h
  | never => cases h

@[simp] theorem contract_ok (rx : List Byte) : (Answer.ok rx).contract rx.length = .ok rx := by
  simp [Answer.contract]

theorem answerAt_issue (s : State) (t : Transaction) (k : Nat) : (s.issue t).answerAt k = s.answerAt (k + 1) := by
  unfold State.answerAt
  simp [Nat.add_assoc, Nat.add_comm 1 k]

theorem replyAt_issue (s : State) (t : Transaction) (n k : Nat) :
    (s.issue t).replyAt n k = s.replyAt n (k + 1) := by
  simp [State.replyAt, answerAt_issue]

@[simp] theorem replyAt_withDac8Gain (s : State) (g n k : Nat) :
    (s.withDac8Gain g).replyAt n k = s.replyAt n k := rfl
@[simp] theorem replyAt_withDac2Gain (s : State) (g n k : Nat) :
    (s.withDac2Gain g).replyAt n k = s.replyAt n k := rfl

/-! ### Issuing several times -/

@[simp] theorem issued_zero (s : State) (t : Transaction) : s.issued t 0 = s := by
  simp [State.issued]

@[simp] theorem issued_one (s : State) (t : Transaction) : s.issued t 1 = s.issue t := by
  simp [State.issued, State.issue]

theorem issue_issued (s : State) (t : Transaction) (n : Nat) : (s.issue t).issued t n = s.issued t (n + 1) := by
  simp [State.issued, State.issue, List.replicate_succ, Nat.add_assoc, Nat.add_comm 1 n]

/-! ### The exchange: exactly three outcomes -/

theorem exchange_ok (s : State) (t : Transaction) (f : List Byte → State → State) (g : State → State)
    (rx : List Byte) (h : s.replyAt t.rdlen 0 = .ok rx) : s.exchange t f g = f rx (s.issue t) := by
  simp [State.exchange, h]

theorem exchange_fail (s : State) (t : Transaction) (f : List Byte → State → State) (g : State → State)
    (h : s.replyAt t.rdlen 0 = .fail) : s.exchange t f g = g (s.issue t) := by
  simp [State.exchange, h]

theorem exchange_never (s : State) (t : Transaction) (f : List Byte → State → State) (g : State → State)
    (h : s.replyAt t.rdlen 0 = .never) : s.exchange t f g = (s.issue t).hang t := by
  simp [State.exchange, h]

theorem exchange_cases (s : State) (t : Transaction) (f : List Byte → State → State) (g : State → State) :
    (∃ rx, rx.length = t.rdlen ∧ s.replyAt t.rdlen 0 = .ok rx ∧ s.exchange t f g = f rx (s.issue t)) ∨
    (s.replyAt t.rdlen 0 = .fail ∧ s.exchange t f g = g (s.issue t)) ∨
    (s.replyAt t.rdlen 0 = .never ∧ s.exchange t f g = (s.issue t).hang t) := by
  cases h : s.replyAt t.rdlen 0 with
  | ok rx => exact .inl ⟨rx, contract_ok_length _ _ _ h, rfl, exchange_ok s t f g rx h⟩
  | fail => exact .inr (.inl ⟨rfl, exchange_fail s t f g h⟩)
  | never => exact .inr (.inr ⟨rfl, exchange_never s t f g h⟩)

/-! ### The write of a DAC command -/

theorem dacWrite_cases (s : State) (addr : Nat) (bytes : List Byte) (onOk : State → State) :
    (s.replyAt 0 0 = .ok [] ∧
      s.dacWrite addr bytes onOk = (onOk (s.issue (busWrite addr bytes))).respond 0#48) ∨
    (s.replyAt 0 0 = .fail ∧ s.dacWrite addr bytes onOk = (s.issue (busWrite addr bytes)).abort .transport) ∨
    (s.replyAt 0 0 = .never ∧
      s.dacWrite addr bytes onOk = (s.issue (busWrite addr bytes)).hang (busWrite addr bytes)) := by
  rcases exchange_cases s (busWrite addr bytes) (fun _ s1 => (onOk s1).respond 0#48)
      (fun s1 => s1.abort .transport) with ⟨rx, hl, h, e⟩ | ⟨h, e⟩ | ⟨h, e⟩
  · obtain rfl : rx = [] := List.length_eq_zero_iff.mp hl
    exact .inl ⟨h, e⟩
  · exact .inr (.inl ⟨h, e⟩)
  · exact .inr (.inr ⟨h, e⟩)

theorem gainWrite_eq (s : State) (addr : Nat) (bytes : List Byte) (commit : State → State) :
    s.gainWrite addr bytes commit =
      if s.cfg.variants.gainCommitBeforeWrite then (commit s).dacWrite addr bytes id
      else s.dacWrite addr bytes commit := rfl

/-! ### The precondition guard -/

theorem guarded_cases (s : State) (checks : List (Option Status)) (body : State → State) :
    (∃ st, firstViolation checks = some st ∧ s.guarded checks body = s.abort st) ∨
    (firstViolation checks = none ∧ s.guarded checks body = body s) := by
  unfold State.guarded
  cases firstViolation checks with
  | some st => exact .inl ⟨st, rfl, rfl⟩
  | none => exact .inr ⟨rfl, rfl⟩

@[simp] theorem firstViolation_nil : firstViolation [] = none := rfl

@[simp] theorem firstViolation_cons (bad : Bool) (st : Status) (rest : List (Option Status)) :
    firstViolation (violation bad st :: rest) = if bad then some st else firstViolation rest := by
  cases bad <;> rfl

/-! ### TREAD: the first answer with bytes, the sentinel after the last failure, or a silent transport -/

theorem treadLoop_ok (t : Transaction) (done : Int → State → State) (n k : Nat) (s : State) (rx : List Byte)
    (hk : k < n) (hf : ∀ j < k, s.replyAt t.rdlen j = .fail) (ho : s.replyAt t.rdlen k = .ok rx) :
    State.treadLoop t done n s = done (celsius (raw16 (byteAt rx 0) (byteAt rx 1))) (s.issued t (k + 1)) := by
  induction k generalizing n s with
  | zero =>
    obtain ⟨m, rfl⟩ : ∃ m, n = m + 1 := ⟨n - 1, by omega⟩
    rw [State.treadLoop, exchange_ok s t _ _ rx ho, issued_one]
  | succ k ih =>
    obtain ⟨m, rfl⟩ : ∃ m, n = m + 1 := ⟨n - 1, by omega⟩
    rw [State.treadLoop, exchange_fail s t _ _ (hf 0 (by omega)), ih m (s.issue t) (by omega), issue_issued]
    · intro j hj
      rw [replyAt_issue]
      exact hf (j + 1) (by omega)
    · rw [replyAt_issue]
      exact ho

theorem treadLoop_never (t : Transaction) (done : Int → State → State) (n k : Nat) (s : State)
    (hk : k < n) (hf : ∀ j < k, s.replyAt t.rdlen j = .fail) (ho : s.replyAt t.rdlen k = .never) :
    State.treadLoop t done n s = (s.issued t (k + 1)).hang t := by
  induction k generalizing n s with
  | zero =>
    obtain ⟨m, rfl⟩ : ∃ m, n = m + 1 := ⟨n - 1, by omega⟩
    rw [State.treadLoop, exchange_never s t _ _ ho, issued_one]
  | succ k ih =>
    obtain ⟨m, rfl⟩ : ∃ m, n = m + 1 := ⟨n - 1, by omega⟩
    rw [State.treadLoop, exchange_fail s t _ _ (hf 0 (by omega)), ih m (s.issue t) (by omega), issue_issued]
    · intro j hj
      rw [replyAt_issue]
      exact hf (j + 1) (by omega)
    · rw [replyAt_issue]
      exact ho

theorem treadLoop_all_fail (t : Transaction) (done : Int → State → State) (n : Nat) (s : State)
    (hf : ∀ j < n, s.replyAt t.rdlen j = .fail) :
    State.treadLoop t done n s = done sentinel ((s.issued t n).setErr bitSent) := by
  induction n generalizing s with
  | zero => rw [State.treadLoop, issued_zero]
  | succ n ih =>
    rw [State.treadLoop, exchange_fail s t _ _ (hf 0 (by omega)), ih (s.issue t), issue_issued]
    intro j hj
    rw [replyAt_issue]
    exact hf (j + 1) (by omega)

/-- TREAD's loop does one of three things, each with the number of transactions it issued. -/
theorem treadLoop_cases (t : Transaction) (done : Int → State → State) (n : Nat) (s : State) :
    (∃ k rx, k < n ∧ rx.length = t.rdlen ∧ (∀ j < k, s.replyAt t.rdlen j = .fail) ∧
      s.replyAt t.rdlen k = .ok rx ∧
      State.treadLoop t done n s = done (celsius (raw16 (byteAt rx 0) (byteAt rx 1))) (s.issued t (k + 1))) ∨
    ((∀ j < n, s.replyAt t.rdlen j = .fail) ∧
      State.treadLoop t done n s = done sentinel ((s.issued t n).setErr bitSent)) ∨
    (∃ k, k < n ∧ (∀ j < k, s.replyAt t.rdlen j = .fail) ∧ s.replyAt t.rdlen k = .never ∧
      State.treadLoop t done n s = (s.issued t (k + 1)).hang t) := by
  classical
  by_cases hall : ∀ j < n, s.replyAt t.rdlen j = .fail
  · exact .inr (.inl ⟨hall, treadLoop_all_fail t done n s hall⟩)
  · have hex : ∃ k, k < n ∧ s.replyAt t.rdlen k ≠ .fail := by
      by_contra hne
      exact hall fun j hj => by_contra fun hj' => hne ⟨j, hj, hj'⟩
    obtain ⟨hk, hne⟩ := Nat.find_spec hex
    have hf : ∀ j < Nat.find hex, s.replyAt t.rdlen j = .fail := fun j hj =>
      by_contra fun hj' => Nat.find_min hex hj ⟨by omega, hj'⟩
    cases h : s.replyAt t.rdlen (Nat.find hex) with
    | ok rx =>
      exact .inl ⟨_, rx, hk, contract_ok_length _ _ _ h, hf, h, treadLoop_ok t done n _ s rx hk hf h⟩
    | fail => exact absurd h hne
    | never => exact .inr (.inr ⟨_, hk, hf, h, treadLoop_never t done n _ s hk hf h⟩)

end Sys2Proof.Machine
end

