-- ==== Sys2Proof/Laws/Exec.lean ====
section
/-!
SUPPORT. Inversion: what a command that answers a next state can have done, and what a step can have done, each said
once. Later proofs split these cases and unfold no meaning.
-/
namespace Sys2Proof.Machine

/-! ### The operand checks are the preconditions -/

theorem firstViolation_dac8SetAllGain (gain : Nat) (c : Config) :
    firstViolation [checkGain gain] = (Instr.dac8SetAllGain gain).violated c := by
  by_cases h : gain ≠ 1 ∧ gain ≠ 2 <;> simp [checkGain, Instr.violated, h]

theorem firstViolation_dac2SetAllGain (gain : Nat) (c : Config) :
    firstViolation [checkGain gain] = (Instr.dac2SetAllGain gain).violated c :=
  firstViolation_dac8SetAllGain gain c

theorem firstViolation_dac2SetSingleGain (gain : Nat) (c : Config) :
    firstViolation [checkGain gain] = (Instr.dac2SetSingleGain gain).violated c :=
  firstViolation_dac8SetAllGain gain c

theorem firstViolation_dac8SetSingleGain (channel gain : Nat) (c : Config) :
    firstViolation [checkChannel channel 7, checkGain gain, checkChanLimit channel] =
      (Instr.dac8SetSingleGain channel gain).violated c := by
  simp only [checkChannel, checkGain, checkChanLimit, firstViolation_cons, firstViolation_nil, decide_eq_true_eq,
    Instr.violated]

theorem firstViolation_dac8OutputVoltDc (channel volt : Nat) (c : Config) :
    firstViolation [checkChannel channel 7, checkVolt volt c.dac8Vref] =
      (Instr.dac8OutputVoltDc channel volt).violated c := by
  simp only [checkChannel, checkVolt, firstViolation_cons, firstViolation_nil, decide_eq_true_eq, Instr.violated]

theorem firstViolation_dac2OutputVoltDc (channel volt : Nat) (c : Config) :
    firstViolation [checkChannel channel 1, checkVolt volt c.dac2Vref] =
      (Instr.dac2OutputVoltDc channel volt).violated c := by
  simp only [checkChannel, checkVolt, firstViolation_cons, firstViolation_nil, decide_eq_true_eq, Instr.violated]

theorem firstViolation_tmpRead (registerAddress registerType : Nat) (c : Config) :
    firstViolation [checkRegType registerType] = (Instr.tmpRead registerAddress registerType).violated c := by
  simp only [checkRegType, firstViolation_cons, firstViolation_nil, decide_eq_true_eq, Instr.violated]

/-- An accepted gain is 1 or 2. -/
theorem gain_of_accepted (gain : Nat) (c : Config) (h : (Instr.dac8SetAllGain gain).violated c = none) :
    gain = 1 ∨ gain = 2 := by
  by_contra hn
  simp only [Instr.violated] at h
  rw [if_pos (by omega)] at h
  cases h

/-- An accepted gain of the single-channel write is 1 or 2. -/
theorem gain_of_accepted_single (channel gain : Nat) (c : Config)
    (h : (Instr.dac8SetSingleGain channel gain).violated c = none) : gain = 1 ∨ gain = 2 := by
  by_contra hn
  simp only [Instr.violated] at h
  split at h
  · cases h
  · rw [if_pos (by omega)] at h
    cases h

/-- A violated precondition is one of the command's statuses, and sets PRE. -/
theorem violated_mem (i : Instr) (c : Config) (st : Status) (h : i.violated c = some st) :
    st ∈ i.canEndWith ∧ st.errBit = bitPre := by
  cases i <;> simp only [Instr.violated] at h <;> (try cases h) <;> (repeat' split at h) <;> cases h <;>
    exact ⟨by simp [Instr.canEndWith], rfl⟩

/-! ### What a command can have done -/

/-- `pre` is `s` after the shadow gain write that command `i` makes, if it makes one. -/
def GainWritten (i : Instr) (s pre : State) : Prop :=
  pre = s ∨
  (∃ g, (g = 1 ∨ g = 2) ∧ pre = s.withDac8Gain g ∧ (i = .dac8SetAllGain g ∨ ∃ c, i = .dac8SetSingleGain c g)) ∨
  (∃ g, (g = 1 ∨ g = 2) ∧ pre = s.withDac2Gain g ∧ (i = .dac2SetAllGain g ∨ i = .dac2SetSingleGain g))

/-- What follows the last of `n` transactions `t`: a response, the sentinel's response, a transport failure, or, where
the last is never answered after the others failed, none. -/
def BusEnded (i : Instr) (t : Transaction) (n : Nat) (pre u : State) : Prop :=
  (∃ v, u = (pre.issued t n).respond v) ∨
  (∃ v, t.kind = .writeRead ∧ u = ((pre.issued t n).setErr bitSent).respond v) ∨
  (.transport ∈ i.canEndWith ∧ u = (pre.issued t n).abort .transport) ∨
  ((∀ j < n - 1, pre.replyAt t.rdlen j = .fail) ∧ pre.replyAt t.rdlen (n - 1) = .never ∧ u = (pre.issued t n).hang t)

/-- The next states command `i` can take from `s`. -/
inductive ExecResult (i : Instr) (s : State) : State → Prop where
  | aborted (st : Status) (h : i.violated s.cfg = some st) : ExecResult i s (s.abort st)
  | flag (b : BitVec 1) (v : BitVec 48) (h : i = .tmpReadStart ∧ b = 1#1 ∨ i = .tmpReadStop ∧ b = 0#1) :
      ExecResult i s ((s.withPollActive b).respond v)
  | bus (t : Transaction) (n : Nat) (pre u : State) (hv : i.violated s.cfg = none)
      (hs : i.transactionShape s.cfg = some (shapeOf t)) (hn : 0 < n ∧ n ≤ i.mostTransactions)
      (hp : GainWritten i s pre) (hu : BusEnded i t n pre u) : ExecResult i s u

/-- A gain write does not touch the answers to come. -/
theorem GainWritten.replyAt_eq {i : Instr} {s pre : State} (h : GainWritten i s pre) (n k : Nat) :
    pre.replyAt n k = s.replyAt n k := by
  rcases h with rfl | ⟨g, -, rfl, -⟩ | ⟨g, -, rfl, -⟩ <;> rfl

theorem execResult_guarded (i : Instr) (s : State) (checks : List (Option Status)) (body : State → State)
    (hc : firstViolation checks = i.violated s.cfg) (hb : i.violated s.cfg = none → ExecResult i s (body s)) :
    ExecResult i s (s.guarded checks body) := by
  rcases guarded_cases s checks body with ⟨st, h, e⟩ | ⟨h, e⟩
  · rw [e]
    exact .aborted st (hc ▸ h)
  · rw [e]
    exact hb (hc ▸ h)

theorem execResult_dacWrite (i : Instr) (s pre : State) (addr : Nat) (bytes : List Byte) (f : State → State)
    (hv : i.violated s.cfg = none) (hs : i.transactionShape s.cfg = some (shapeOf (busWrite addr bytes)))
    (hm : i.mostTransactions = 1) (ht : .transport ∈ i.canEndWith) (hp : GainWritten i s pre)
    (hf : ∀ t, ∃ pre', GainWritten i s pre' ∧ f (pre.issued t 1) = pre'.issued t 1) :
    ExecResult i s (pre.dacWrite addr bytes f) := by
  rcases dacWrite_cases pre addr bytes f with ⟨-, e⟩ | ⟨-, e⟩ | ⟨h, e⟩ <;> rw [← issued_one] at e
  · obtain ⟨pre', hp', e'⟩ := hf (busWrite addr bytes)
    exact .bus _ 1 pre' _ hv hs (by omega) hp' (.inl ⟨0#48, by rw [e, e']⟩)
  · exact .bus _ 1 pre _ hv hs (by omega) hp (.inr (.inr (.inl ⟨ht, e⟩)))
  · exact .bus _ 1 pre _ hv hs (by omega) hp (.inr (.inr (.inr ⟨fun j hj => by omega, h, e⟩)))

theorem execResult_gainWrite (i : Instr) (s : State) (addr : Nat) (bytes : List Byte) (commit : State → State)
    (hv : i.violated s.cfg = none) (hs : i.transactionShape s.cfg = some (shapeOf (busWrite addr bytes)))
    (hm : i.mostTransactions = 1) (ht : .transport ∈ i.canEndWith) (hp : GainWritten i s (commit s))
    (hf : ∀ t, commit (s.issued t 1) = (commit s).issued t 1) :
    ExecResult i s (s.gainWrite addr bytes commit) := by
  rw [gainWrite_eq]
  split
  · exact execResult_dacWrite i s _ addr bytes id hv hs hm ht hp fun t => ⟨_, hp, rfl⟩
  · exact execResult_dacWrite i s s addr bytes commit hv hs hm ht (.inl rfl) fun t => ⟨_, hp, hf t⟩

theorem execResult_tread (i : Instr) (s : State) (a : Nat) (type : RegType) (convert : Int → Int)
    (hv : i.violated s.cfg = none)
    (hs : i.transactionShape s.cfg = some (shapeOf (treadTransaction s.cfg a type)))
    (hm : i.mostTransactions = 5) : ExecResult i s (s.tread a type convert) := by
  rcases treadLoop_cases (treadTransaction s.cfg a type) (fun v s1 => s1.respond (sext48 (convert v))) 5 s with
    ⟨k, rx, hk, -, -, -, e⟩ | ⟨-, e⟩ | ⟨k, hk, hf, hn, e⟩
  · exact .bus _ (k + 1) s _ hv hs (by omega) (.inl rfl) (.inl ⟨_, e⟩)
  · exact .bus _ 5 s _ hv hs (by omega) (.inl rfl) (.inr (.inl ⟨_, rfl, e⟩))
  · exact .bus _ (k + 1) s _ hv hs (by omega) (.inl rfl) (.inr (.inr (.inr ⟨hf, hn, e⟩)))

theorem execResult_dac8SetAllGain (gain : Nat) (s u : State) (h : exec (.dac8SetAllGain gain) s = .next u) :
    ExecResult (.dac8SetAllGain gain) s u := by
  cases h
  refine execResult_guarded _ _ _ _ (firstViolation_dac8SetAllGain gain _) fun hv => ?_
  exact execResult_gainWrite _ _ _ _ _ hv rfl rfl (by simp [Instr.canEndWith])
    (.inr (.inl ⟨gain, gain_of_accepted gain _ hv, rfl, .inl rfl⟩)) fun _ => rfl

theorem execResult_dac8SetSingleGain (channel gain : Nat) (s u : State)
    (h : exec (.dac8SetSingleGain channel gain) s = .next u) :
    ExecResult (.dac8SetSingleGain channel gain) s u := by
  cases h
  refine execResult_guarded _ _ _ _ (firstViolation_dac8SetSingleGain channel gain _) fun hv => ?_
  refine execResult_gainWrite _ _ _ _ _ hv rfl rfl (by simp [Instr.canEndWith]) ?_ fun _ => ?_
  · split
    · exact .inr (.inl ⟨gain, gain_of_accepted_single channel gain _ hv, rfl, .inr ⟨channel, rfl⟩⟩)
    · exact .inl rfl
  · split <;> rfl

theorem execResult_dac8OutputVoltDc (channel volt : Nat) (s u : State)
    (h : exec (.dac8OutputVoltDc channel volt) s = .next u) : ExecResult (.dac8OutputVoltDc channel volt) s u := by
  cases h
  refine execResult_guarded _ _ _ _ (firstViolation_dac8OutputVoltDc channel volt _) fun hv => ?_
  exact execResult_dacWrite _ _ _ _ _ _ hv rfl rfl (by simp [Instr.canEndWith]) (.inl rfl)
    fun _ => ⟨s, .inl rfl, rfl⟩

theorem execResult_dac8OutputReset (s u : State) (h : exec .dac8OutputReset s = .next u) :
    ExecResult .dac8OutputReset s u := by
  cases h
  exact execResult_dacWrite _ _ _ _ _ _ rfl rfl rfl (by simp [Instr.canEndWith]) (.inl rfl)
    fun _ => ⟨s, .inl rfl, rfl⟩

theorem execResult_dac2SetAllGain (gain : Nat) (s u : State) (h : exec (.dac2SetAllGain gain) s = .next u) :
    ExecResult (.dac2SetAllGain gain) s u := by
  cases h
  refine execResult_guarded _ _ _ _ (firstViolation_dac2SetAllGain gain _) fun hv => ?_
  exact execResult_gainWrite _ _ _ _ _ hv rfl rfl (by simp [Instr.canEndWith])
    (.inr (.inr ⟨gain, gain_of_accepted gain s.cfg hv, rfl, .inl rfl⟩)) fun _ => rfl

theorem execResult_dac2SetSingleGain (gain : Nat) (s u : State) (h : exec (.dac2SetSingleGain gain) s = .next u) :
    ExecResult (.dac2SetSingleGain gain) s u := by
  cases h
  refine execResult_guarded _ _ _ _ (firstViolation_dac2SetSingleGain gain _) fun hv => ?_
  exact execResult_gainWrite _ _ _ _ _ hv rfl rfl (by simp [Instr.canEndWith])
    (.inr (.inr ⟨gain, gain_of_accepted gain s.cfg hv, rfl, .inr rfl⟩)) fun _ => rfl

theorem execResult_dac2OutputVoltDc (channel volt : Nat) (s u : State)
    (h : exec (.dac2OutputVoltDc channel volt) s = .next u) : ExecResult (.dac2OutputVoltDc channel volt) s u := by
  cases h
  refine execResult_guarded _ _ _ _ (firstViolation_dac2OutputVoltDc channel volt _) fun hv => ?_
  exact execResult_dacWrite _ _ _ _ _ _ hv rfl rfl (by simp [Instr.canEndWith]) (.inl rfl)
    fun _ => ⟨s, .inl rfl, rfl⟩

theorem execResult_dac2OutputReset (s u : State) (h : exec .dac2OutputReset s = .next u) :
    ExecResult .dac2OutputReset s u := by
  cases h
  exact execResult_dacWrite _ _ _ _ _ _ rfl rfl rfl (by simp [Instr.canEndWith]) (.inl rfl)
    fun _ => ⟨s, .inl rfl, rfl⟩

theorem execResult_adcRead (s u : State) (h : exec .adcRead s = .next u) : ExecResult .adcRead s u := by
  cases h
  rcases exchange_cases s (busRead s.cfg.adcAddr 2) (fun rx s1 => s1.respond (adcResult s.cfg rx))
      (fun s1 => s1.abort .transport) with ⟨rx, -, -, e⟩ | ⟨-, e⟩ | ⟨h, e⟩ <;> rw [← issued_one] at e
  · exact .bus _ 1 s _ rfl rfl (by decide) (.inl rfl) (.inl ⟨_, e⟩)
  · exact .bus _ 1 s _ rfl rfl (by decide) (.inl rfl) (.inr (.inr (.inl ⟨by simp [Instr.canEndWith], e⟩)))
  · exact .bus _ 1 s _ rfl rfl (by decide) (.inl rfl) (.inr (.inr (.inr ⟨fun j hj => by omega, h, e⟩)))

theorem execResult_tmpRead (registerAddress registerType : Nat) (s u : State)
    (h : exec (.tmpRead registerAddress registerType) s = .next u) :
    ExecResult (.tmpRead registerAddress registerType) s u := by
  cases h
  refine execResult_guarded _ _ _ _ (firstViolation_tmpRead registerAddress registerType _) fun hv => ?_
  exact execResult_tread _ _ _ _ _ hv rfl rfl

/-- What a command that answers a next state did. -/
theorem exec_inversion (i : Instr) (s u : State) (h : exec i s = .next u) : ExecResult i s u := by
  cases i with
  | dac8SetAllGain gain => exact execResult_dac8SetAllGain gain s u h
  | dac8SetSingleGain channel gain => exact execResult_dac8SetSingleGain channel gain s u h
  | dac8OutputVoltDc channel volt => exact execResult_dac8OutputVoltDc channel volt s u h
  | dac8OutputReset => exact execResult_dac8OutputReset s u h
  | dac2SetAllGain gain => exact execResult_dac2SetAllGain gain s u h
  | dac2SetSingleGain gain => exact execResult_dac2SetSingleGain gain s u h
  | dac2OutputVoltDc channel volt => exact execResult_dac2OutputVoltDc channel volt s u h
  | dac2OutputReset => exact execResult_dac2OutputReset s u h
  | adcRead => exact execResult_adcRead s u h
  | tmpRead registerAddress registerType => exact execResult_tmpRead registerAddress registerType s u h
  | tmpReadObjC => cases h; exact execResult_tread _ _ _ _ _ rfl rfl rfl
  | tmpReadObjF => cases h; exact execResult_tread _ _ _ _ _ rfl rfl rfl
  | tmpReadAmbC => cases h; exact execResult_tread _ _ _ _ _ rfl rfl rfl
  | tmpReadAmbF => cases h; exact execResult_tread _ _ _ _ _ rfl rfl rfl
  | tmpGetObj => cases h; exact execResult_tread _ _ _ _ _ rfl rfl rfl
  | tmpReadStart => cases h; exact .flag _ _ (.inl ⟨rfl, rfl⟩)
  | tmpReadStop => cases h; exact .flag _ _ (.inr ⟨rfl, rfl⟩)

/-- A command that answers a next state delivered one response, or is hung on a transaction of its row's shape because
the transport never answers it. -/
theorem exec_responds_or_silent (i : Instr) (s u : State) (h : exec i s = .next u) :
    (u.inFlight = s.inFlight ∧ ∃ rw, u.responses = s.responses ++ [rw]) ∨
    (s.SilentTo i ∧ ∃ t, i.transactionShape s.cfg = some (shapeOf t) ∧ u.inFlight = some t ∧
      u.responses = s.responses) := by
  cases exec_inversion i s u h with
  | aborted st _ => exact .inl ⟨rfl, _, rfl⟩
  | flag b v _ => exact .inl ⟨rfl, _, rfl⟩
  | bus t n pre u hv hs hn hp hu =>
    have hr : pre.responses = s.responses ∧ pre.inFlight = s.inFlight := by
      rcases hp with rfl | ⟨g, -, rfl, -⟩ | ⟨g, -, rfl, -⟩ <;> exact ⟨rfl, rfl⟩
    rcases hu with ⟨v, rfl⟩ | ⟨v, -, rfl⟩ | ⟨-, rfl⟩ | ⟨hf, hnv, rfl⟩
    · exact .inl ⟨hr.2, responseWord .ok v, congrArg (· ++ [responseWord .ok v]) hr.1⟩
    · exact .inl ⟨hr.2, responseWord .ok v, congrArg (· ++ [responseWord .ok v]) hr.1⟩
    · exact .inl ⟨hr.2, responseWord .transport 0#48, congrArg (· ++ [responseWord .transport 0#48]) hr.1⟩
    · refine .inr ⟨⟨hv, _, n - 1, hs, by omega, fun j hj => ?_, ?_⟩, t, hs, rfl, hr.1⟩
      · rw [← hp.replyAt_eq]
        exact hf j hj
      · rw [← hp.replyAt_eq]
        exact hnv

/-! ### What a step can have done -/

theorem whenReady_next (s u : State) (go : Host.Outcome State Fault Refusal) (h : s.whenReady go = .next u) :
    s.Ready ∧ go = .next u := by
  unfold State.whenReady at h
  split at h
  · cases h
  · rename_i hc
    split at h
    · cases h
    · rename_i hf
      exact ⟨⟨hc, hf⟩, h⟩

/-- A step that answers a next state was a reset, idle, an illegal word, or one command. -/
theorem step_inversion (s u : State) (h : step s = .next u) :
    (∃ c rest, s.inputs = .reset c :: rest ∧ c.failedCheck = none ∧
      u = { State.resetWith c with inputs := rest, answers := s.answers, busCount := s.busCount }) ∨
    (s.NextIsNoReset ∧ s.Ready ∧
      (u = s ∨ u = s.takeInput.abort .illegal ∨ ∃ i, exec i s.takeInput = .next u)) := by
  unfold step runNextInput at h
  split at h
  · rename_i hi
    obtain ⟨hr, e⟩ := whenReady_next _ _ _ h
    cases e
    exact .inr ⟨fun c rest hc => by simp [hi] at hc, hr, .inl rfl⟩
  · rename_i w rest hi
    obtain ⟨hr, e⟩ := whenReady_next _ _ _ h
    refine .inr ⟨fun c rest hc => by simp [hi] at hc, hr, .inr ?_⟩
    unfold runWord at e
    split at e
    · exact .inr ⟨_, e⟩
    · cases e
      exact .inl rfl
  · rename_i c rest hi
    unfold runReset at h
    split at h
    · cases h
    · rename_i hc
      cases h
      exact .inl ⟨c, rest, hi, hc, by simp [hi]⟩

end Sys2Proof.Machine
end

