-- ==== Sys2Proof/Laws/PerInstr.lean ====
section
/-!
SUPPORT. Facts about the encoding, one lemma per constructor of Instr: the operation code and the reserved field of
an encoded command stand where 30_encoding.md R50 puts them.
-/
namespace Sys2Proof

/-- The five fields of a word joined from five parts are the parts (30_encoding.md R50). -/
theorem fields_append (opc a b z : Byte) (v : BitVec 32) :
    fieldOpc (opc ++ a ++ b ++ z ++ v) = opc ∧ fieldA (opc ++ a ++ b ++ z ++ v) = a ∧
      fieldB (opc ++ a ++ b ++ z ++ v) = b ∧ fieldZ (opc ++ a ++ b ++ z ++ v) = z ∧
      fieldV (opc ++ a ++ b ++ z ++ v) = v := by
  refine ⟨?_, ?_, ?_, ?_, ?_⟩ <;>
  · apply BitVec.eq_of_getLsbD_eq
    intro i hi
    simp only [fieldOpc, fieldA, fieldB, fieldZ, fieldV, BitVec.getLsbD_extractLsb', BitVec.getLsbD_append]
    simp only [hi, decide_true, Bool.true_and]
    repeat' split
    all_goals first | omega | (congr 1; omega)

/-- The fields of an assembled word are what they were assembled from, and Z is zero (30_encoding.md R50). -/
theorem commandWord_fields (opc a b : Byte) (v : BitVec 32) :
    fieldOpc (commandWord opc a b v) = opc ∧ fieldA (commandWord opc a b v) = a ∧
      fieldB (commandWord opc a b v) = b ∧ fieldZ (commandWord opc a b v) = 0#8 ∧
      fieldV (commandWord opc a b v) = v := fields_append opc a b 0#8 v

/-- Decoding a word joined from five parts looks at the parts (30_encoding.md R53). -/
theorem decode_append (opc a b z : Byte) (v : BitVec 32) :
    decode (opc ++ a ++ b ++ z ++ v) =
      if z = 0#8 then decodeRow opc a.toNat b.toNat v.toNat else .error (.reservedField z) := by
  obtain ⟨h1, h2, h3, h4, h5⟩ := fields_append opc a b z v
  simp only [decode, h1, h2, h3, h4, h5]

namespace Laws.EncodeFields

/-- An encoded command has its operation code in OPC and zero in Z. -/
def Statement (i : Instr) : Prop := fieldOpc (encode i) = i.opcode ∧ fieldZ (encode i) = 0#8

theorem of_commandWord (i : Instr) : Statement i :=
  ⟨(commandWord_fields ..).1, (commandWord_fields ..).2.2.2.1⟩

theorem dac8SetAllGain (gain : Nat) : Statement (.dac8SetAllGain gain) := of_commandWord _
theorem dac8SetSingleGain (channel gain : Nat) : Statement (.dac8SetSingleGain channel gain) := of_commandWord _
theorem dac8OutputVoltDc (channel volt : Nat) : Statement (.dac8OutputVoltDc channel volt) := of_commandWord _
theorem dac8OutputReset : Statement .dac8OutputReset := of_commandWord _
theorem dac2SetAllGain (gain : Nat) : Statement (.dac2SetAllGain gain) := of_commandWord _
theorem dac2SetSingleGain (gain : Nat) : Statement (.dac2SetSingleGain gain) := of_commandWord _
theorem dac2OutputVoltDc (channel volt : Nat) : Statement (.dac2OutputVoltDc channel volt) := of_commandWord _
theorem dac2OutputReset : Statement .dac2OutputReset := of_commandWord _
theorem adcRead : Statement .adcRead := of_commandWord _
theorem tmpRead (registerAddress registerType : Nat) : Statement (.tmpRead registerAddress registerType) :=
  of_commandWord _
theorem tmpReadObjC : Statement .tmpReadObjC := of_commandWord _
theorem tmpReadObjF : Statement .tmpReadObjF := of_commandWord _
theorem tmpReadAmbC : Statement .tmpReadAmbC := of_commandWord _
theorem tmpReadAmbF : Statement .tmpReadAmbF := of_commandWord _
theorem tmpGetObj : Statement .tmpGetObj := of_commandWord _
theorem tmpReadStart : Statement .tmpReadStart := of_commandWord _
theorem tmpReadStop : Statement .tmpReadStop := of_commandWord _

end Laws.EncodeFields

end Sys2Proof
end

