-- ==== Sys2Proof/Tests/Slice0.lean ====
section
/-!
SUPPORT. The model's own tests. Every expected value is taken from 95_test_vectors.md or from the worked example of the
rule named, never from the model.
-/
namespace Sys2Proof.Tests

open Sys2Proof Sys2Proof.Machine

/-- The next state of an outcome, if it has one. -/
def nextOf (o : Host.Outcome State Fault Refusal) : Option State :=
  match o with
  | .next s => some s
  | .fault _ => none
  | .refused _ => none

/-- The fault of an outcome, if it has one. -/
def faultOf (o : Host.Outcome State Fault Refusal) : Option Fault :=
  match o with
  | .next _ => none
  | .fault f => some f
  | .refused _ => none

/-- The refusal of an outcome, if it has one. -/
def refusalOf (o : Host.Outcome State Fault Refusal) : Option Refusal :=
  match o with
  | .next _ => none
  | .fault _ => none
  | .refused r => some r

/-- State right after reset under EX1 with the transport's answers listed. -/
def answering (answers : List Answer) : State := { State.reset with answers := answers }

/-- One command word executed by a step, with the answers listed. -/
def ran (w : CommandWord) (answers : List Answer) : Option State :=
  nextOf (step { answering answers with inputs := [.command w] })

/-- What a test looks at: the four registers, the trace and the responses. -/
structure View where
  dac8Gain   : Byte
  dac2Gain   : Byte
  pollActive : BitVec 1
  errstat    : Byte
  trace      : List Transaction
  responses  : List ResponseWord
deriving DecidableEq, Repr

/-- The view of a state, if there is one. -/
def seen (s : Option State) : Option View :=
  s.map fun u => ⟨u.dac8Gain, u.dac2Gain, u.pollActive, u.errstat, u.trace, u.responses⟩

/-- A write, as a trace shows it. -/
def wr (addr : BitVec 7) (tx : List Byte) : Transaction := ⟨.write, addr, tx, 0⟩

/-- A temperature read, as a trace shows it. -/
def wread (tx : Byte) : Transaction := ⟨.writeRead, 0x13#7, [tx], 3⟩

/-! ### WellFormed: an ill-formed term for each check, and one that every check accepts -/

theorem test_wellFormed_refuses_wide_gain : (Instr.dac8SetAllGain 256).wellFormed = false := by decide
theorem test_wellFormed_refuses_wide_channel : (Instr.dac2OutputVoltDc 256 0).wellFormed = false := by decide
theorem test_wellFormed_refuses_wide_volt : (Instr.dac8OutputVoltDc 0 4294967296).wellFormed = false := by decide
theorem test_wellFormed_refuses_wide_type : (Instr.tmpRead 7 256).wellFormed = false := by decide
theorem test_wellFormed_refuses_wide_address : (Instr.tmpRead 256 0).wellFormed = false := by decide
theorem test_wellFormed_refuses_single_gain : (Instr.dac8SetSingleGain 3 256).wellFormed = false := by decide
theorem test_wellFormed_refuses_dac2_gain :
    (Instr.dac2SetAllGain 256).wellFormed = false ∧ (Instr.dac2SetSingleGain 256).wellFormed = false := by decide
theorem test_wellFormed_accepts_widest : (Instr.dac8OutputVoltDc 255 4294967295).wellFormed = true := by decide

/-! ### Decode: one written word per row, 30_encoding.md R57, fields that are ignored set in some (R56) -/

theorem test_decode_dac8SetAllGain : decode 0x10EE0100DEADBEEF#64 = .ok (.dac8SetAllGain 1) := by decide
theorem test_decode_dac8SetSingleGain : decode 0x1101020000000000#64 = .ok (.dac8SetSingleGain 1 2) := by decide
theorem test_decode_dac8OutputVoltDc :
    decode 0x1203000009C40000#64 = .ok (.dac8OutputVoltDc 3 0x09C40000) := by decide
theorem test_decode_dac8OutputReset : decode 0x1300000000000000#64 = .ok .dac8OutputReset := by decide
theorem test_decode_dac2SetAllGain : decode 0x2000010000000000#64 = .ok (.dac2SetAllGain 1) := by decide
theorem test_decode_dac2SetSingleGain : decode 0x2100020000000000#64 = .ok (.dac2SetSingleGain 2) := by decide
theorem test_decode_dac2OutputVoltDc :
    decode 0x2201000013880000#64 = .ok (.dac2OutputVoltDc 1 0x13880000) := by decide
theorem test_decode_dac2OutputReset : decode 0x2300000000000000#64 = .ok .dac2OutputReset := by decide
theorem test_decode_adcRead : decode 0x3000000000000000#64 = .ok .adcRead := by decide
theorem test_decode_tmpRead : decode 0x400E010000000000#64 = .ok (.tmpRead 0x0E 1) := by decide
theorem test_decode_tmpReadObjC : decode 0x4100000000000000#64 = .ok .tmpReadObjC := by decide
theorem test_decode_tmpReadObjF : decode 0x4200000000000000#64 = .ok .tmpReadObjF := by decide
theorem test_decode_tmpReadAmbC : decode 0x4300000000000000#64 = .ok .tmpReadAmbC := by decide
theorem test_decode_tmpReadAmbF : decode 0x4400000000000000#64 = .ok .tmpReadAmbF := by decide
theorem test_decode_tmpGetObj : decode 0x4500000000000000#64 = .ok .tmpGetObj := by decide
theorem test_decode_tmpReadStart : decode 0x46FFFF00FFFFFFFF#64 = .ok .tmpReadStart := by decide
theorem test_decode_tmpReadStop : decode 0x4700000000000000#64 = .ok .tmpReadStop := by decide

/-- 95_test_vectors.md section 8: illegal words, rejected by name. -/
theorem test_decode_illegal :
    decode 0x0000000000000000#64 = .error (.unknownOpcode 0x00#8) ∧
    decode 0x1400000000000000#64 = .error (.unknownOpcode 0x14#8) ∧
    decode 0x4800000000000000#64 = .error (.unknownOpcode 0x48#8) ∧
    decode 0xFFFFFFFFFFFFFFFF#64 = .error (.reservedField 0xFF#8) ∧
    decode 0x3000008000000000#64 = .error (.reservedField 0x80#8) := by decide

/-- The words of 30_encoding.md R57 from their written form. -/
theorem test_assemble :
    assemble (.dac8OutputVoltDc 3 ⟨2500, 0⟩) = some 0x1203000009C40000#64 ∧
    assemble (.dac8OutputVoltDc 5 ⟨25005, 1⟩) = some 0x1205000009C48000#64 ∧
    assemble (.tmpRead 0x0E .eeprom) = some 0x400E010000000000#64 ∧
    assemble (.dac8OutputVoltDc 0 ⟨1, 1⟩) = none := by decide

/-! ### Codec functions: 95_test_vectors.md sections 3 to 7 -/

theorem test_dacCode8 :
    dacCode8 327680000 327680000 1 = 4095 ∧ dacCode8 163879999 327680000 2 = 4095 ∧
    dacCode8 163880000 327680000 2 = 4097 ∧ dacCode8 79999 327680000 1 = 0 ∧ dacCode8 80000 327680000 1 = 1 := by
  decide
theorem test_dacCode2 :
    dacCode2 1285019 327680000 1 = 0 ∧ dacCode2 1285020 327680000 1 = 1 ∧
    dacCode2 0x09CE0000 327680000 2 = 256 ∧ dacCode2 327680000 327680000 1 = 255 := by decide
theorem test_first2 :
    first2 1 2 = 0x12#8 ∧ first2 3 1 = 0x0E#8 ∧ first2 7 1 = 0x0E#8 ∧ first2 2 1 = 0x0C#8 := by decide
theorem test_adcVolt :
    adcVolt 1 327680000 = 80019 ∧ adcVolt 65535 327680000 = 5244080293 ∧
    adcVolt 65535 4294967295 = 68735209200 := by decide
theorem test_c2f : c2f (-999000) = -1766200 ∧ c2f 1 = 32001 ∧ c2f (-1) = 31998 ∧ c2f (-3) = 31994 := by decide
theorem test_correct :
    correct 82000 = 77500 ∧ correct 82001 = 76001 ∧ correct 60000 = 58000 ∧ correct 60001 = 55501 ∧
    correct 40000 = 40000 ∧ correct 40001 = 38001 ∧ correct (-999000) = -999000 := by decide

/-! ### One step per command: the programs and vectors of 95_test_vectors.md -/

/-- Section 8, transport failures: the gain is committed. -/
theorem test_dac8SetAllGain_fail :
    seen (ran 0x1000020000000000#64 [.fail]) =
      some ⟨2#8, 1#8, 0#1, 0x04#8, [wr 0x10 [0xAF]], [0x0700000000000000#64]⟩ := by decide
/-- R90's example. -/
theorem test_dac8SetAllGain :
    seen (ran 0x1000020000000000#64 [.ok []]) = some ⟨2#8, 1#8, 0#1, 0#8, [wr 0x10 [0xAF]], [0#64]⟩ := by decide
/-- R91's example. -/
theorem test_dac8SetSingleGain :
    seen (ran 0x1101020000000000#64 [.ok []]) = some ⟨2#8, 1#8, 0#1, 0#8, [wr 0x10 [0xA4]], [0#64]⟩ := by decide
/-- Section 8: gain checked before the channel limit, and the limit on its own. -/
theorem test_dac8SetSingleGain_aborts :
    seen (ran 0x1107030000000000#64 []) = some ⟨1#8, 1#8, 0#1, 0x02#8, [], [0x0300000000000000#64]⟩ ∧
    seen (ran 0x1104010000000000#64 []) = some ⟨1#8, 1#8, 0#1, 0x02#8, [], [0x0600000000000000#64]⟩ := by decide
/-- Program P1, step 1. -/
theorem test_dac8OutputVoltDc :
    seen (ran 0x1200000013880000#64 [.ok []]) =
      some ⟨1#8, 1#8, 0#1, 0#8, [wr 0x10 [0x30, 0x0F, 0xFF]], [0#64]⟩ := by decide
/-- Section 8: one raw unit above the reference. -/
theorem test_dac8OutputVoltDc_volt :
    seen (ran 0x1200000013880001#64 []) = some ⟨1#8, 1#8, 0#1, 0x02#8, [], [0x0400000000000000#64]⟩ := by decide
/-- R93's example. -/
theorem test_dac8OutputReset :
    seen (ran 0x1300000000000000#64 [.ok []]) = some ⟨1#8, 1#8, 0#1, 0#8, [wr 0x10 [0, 0]], [0#64]⟩ := by decide
/-- Program P3, step 1. -/
theorem test_dac2SetAllGain :
    seen (ran 0x2000020000000000#64 [.ok []]) =
      some ⟨1#8, 2#8, 0#1, 0#8, [wr 0x11 [0x12, 0x00, 0xFF]], [0#64]⟩ := by decide
/-- R101's example. -/
theorem test_dac2SetSingleGain :
    seen (ran 0x2100010000000000#64 [.ok []]) =
      some ⟨1#8, 1#8, 0#1, 0#8, [wr 0x11 [0x12, 0x00, 0x00]], [0#64]⟩ := by decide
/-- Program P3, step 4. -/
theorem test_dac2OutputVoltDc :
    seen (ran 0x220100000CE40000#64 [.ok []]) =
      some ⟨1#8, 1#8, 0#1, 0#8, [wr 0x11 [0x0E, 0x00, 0xA8]], [0#64]⟩ := by decide
/-- Section 8, transport failures. -/
theorem test_dac2OutputReset_fail :
    seen (ran 0x2300000000000000#64 [.fail]) =
      some ⟨1#8, 1#8, 0#1, 0x04#8, [wr 0x11 [0, 0]], [0x0700000000000000#64]⟩ := by decide
/-- Program P3, steps 5 and 10. -/
theorem test_adcRead :
    seen (ran 0x3000000000000000#64 [.ok [0x0A, 0x8F]]) =
      some ⟨1#8, 1#8, 0#1, 0#8, [⟨.read, 0x12, [], 2⟩], [0x000000000CE45DC5#64]⟩ := by decide
theorem test_adcRead_unmasked :
    seen (ran 0x3000000000000000#64 [.ok [0xFF, 0xFF]]) =
      some ⟨1#8, 1#8, 0#1, 0#8, [⟨.read, 0x12, [], 2⟩], [0x00000001389250A5#64]⟩ := by decide
/-- Program P4, step 5: four failures, then an answer. -/
theorem test_tmpRead :
    seen (ran 0x4027010000000000#64 [.fail, .fail, .fail, .fail, .ok [0x00, 0x80, 0xFF]]) =
      some ⟨1#8, 1#8, 0#1, 0#8, List.replicate 5 (wread 0x27), [0x000000000005D502#64]⟩ := by decide
/-- Section 8: register type 2. -/
theorem test_tmpRead_type :
    seen (ran 0x4007020000000000#64 []) = some ⟨1#8, 1#8, 0#1, 0x02#8, [], [0x0500000000000000#64]⟩ := by decide
/-- Section 8: five failures. -/
theorem test_tmpReadObjC_sentinel :
    seen (ran 0x4100000000000000#64 (List.replicate 5 .fail)) =
      some ⟨1#8, 1#8, 0#1, 0x08#8, List.replicate 5 (wread 0x07), [0x0000FFFFFFF0C1A8#64]⟩ := by decide
/-- R120's example. -/
theorem test_tmpReadObjC :
    seen (ran 0x4100000000000000#64 [.ok [0x65, 0x33, 0xAB]]) =
      some ⟨1#8, 1#8, 0#1, 0#8, [wread 0x07], [0x0000FFFFFFFFD8E6#64]⟩ := by decide
/-- R121's example. -/
theorem test_tmpReadObjF :
    seen (ran 0x4200000000000000#64 [.ok [0x20, 0x4E, 0x00]]) =
      some ⟨1#8, 1#8, 0#1, 0#8, [wread 0x07], [0x000000000003F8EA#64]⟩ := by decide
/-- R122's example. -/
theorem test_tmpReadAmbC :
    seen (ran 0x4300000000000000#64 [.ok [0xD0, 0x39, 0x00]]) =
      some ⟨1#8, 1#8, 0#1, 0#8, [wread 0x06], [0x0000000000005942#64]⟩ := by decide
/-- Program P4, step 4. -/
theorem test_tmpReadAmbF_sentinel :
    seen (ran 0x4400000000000000#64 (List.replicate 5 .fail)) =
      some ⟨1#8, 1#8, 0#1, 0x08#8, List.replicate 5 (wread 0x06), [0x0000FFFFFFE50CC8#64]⟩ := by decide
/-- Program P4, step 2. -/
theorem test_tmpGetObj :
    seen (ran 0x4500000000000000#64 [.fail, .fail, .ok [0x5E, 0x45, 0x77]]) =
      some ⟨1#8, 1#8, 0#1, 0#8, List.replicate 3 (wread 0x07), [0x00000000000128EA#64]⟩ := by decide
/-- Section 8: unused fields all ones. -/
theorem test_tmpReadStart :
    seen (ran 0x46FFFF00FFFFFFFF#64 []) = some ⟨1#8, 1#8, 1#1, 0#8, [], [1#64]⟩ := by decide
/-- R127's example. -/
theorem test_tmpReadStop :
    seen (nextOf (exec .tmpReadStop { State.reset with pollActive := 1#1 })) =
      some ⟨1#8, 1#8, 0#1, 0#8, [], [0#64]⟩ := by decide

/-! ### The step around the commands -/

/-- Program P2, step 9: an illegal word. -/
theorem test_illegal_word :
    seen (ran 0x5000000000000000#64 []) = some ⟨1#8, 1#8, 0#1, 0x01#8, [], [0x0100000000000000#64]⟩ := by decide
/-- R165: a transaction that is never answered produces no response, and no other command begins. -/
theorem test_never_answered :
    ((ran 0x3000000000000000#64 [.never]).map fun u => (u.inFlight.isSome, u.responses, faultOf (step u))) =
      some (true, [], some .transportNeverAnswers) := by decide
/-- R12: a configuration whose DAC8_VREF is zero is refused by name. -/
theorem test_bad_config :
    refusalOf (step { State.reset with inputs := [.reset { Config.ex1 with dac8Vref := 0#32 }] }) =
      some (.badConfig .dac8Vref) := by decide
/-- U12: an answer of the wrong length is a failure. -/
theorem test_short_read :
    ((ran 0x3000000000000000#64 [.ok [0x0A]]).map fun u => u.responses) = some [0x0700000000000000#64] := by decide
/-- The word placed by `withFetchWord` is the next one run. -/
theorem test_withFetchWord :
    ((nextOf (step (State.reset.withFetchWord 64 0x4600000000000000))).map fun u => u.pollActive) = some 1#1 := by
  decide

end Sys2Proof.Tests
end

