-- ==== Sys2Proof/Tests/Witness.lean ====
section
/-!
SUPPORT. For each statement with hypotheses, a concrete state and operands that meet them together, clause by clause at
a boundary of each range.
-/
namespace Sys2Proof.Tests

open Sys2Proof Sys2Proof.Machine

/-- EX1 with other switches. -/
def switched (v : Variants) (answers : List Answer) : State :=
  { answering answers with cfg := { Config.ex1 with variants := v } }

/-- Five failures listed. -/
def fiveFails : List Answer := List.replicate 5 .fail

/-- Four failures listed, then an answer with three bytes. -/
def fourFailsThenBytes : List Answer := [.fail, .fail, .fail, .fail, .ok [0xFF#8, 0xFF#8, 0x00#8]]

theorem witness_EncodedCommandDecodesToItself :
    (Instr.dac8SetSingleGain 255 255).wellFormed = true ∧ (Instr.tmpRead 255 255).wellFormed = true := by decide

theorem witness_DecodeFollowsOpcodeMap :
    (0x01#8 : Byte) ≠ 0#8 ∧
    0x14#8 ∉ [0x10#8, 0x11#8, 0x12#8, 0x13#8, 0x20#8, 0x21#8, 0x22#8, 0x23#8, 0x30#8, 0x40#8, 0x41#8, 0x42#8, 0x43#8,
      0x44#8, 0x45#8, 0x46#8, 0x47#8] := by decide

theorem witness_MaskedWordSelectsRow :
    decode 0x4700000000000000#64 = .ok .tmpReadStop ∧
    0x47FFFF00FFFFFFFF#64 &&& 0xFF0000FF00000000#64 = Instr.tmpReadStop.opcode ++ 0#56 := by decide

theorem witness_UnusedFieldsChangeNothing :
    (0x10#8 ∈ [0x11#8, 0x12#8, 0x22#8, 0x40#8] → (0x00#8 : Byte) = 0xFF#8) ∧
    (0x10#8 ∈ [0x10#8, 0x11#8, 0x20#8, 0x21#8, 0x40#8] → (0x01#8 : Byte) = 0x01#8) ∧
    (0x10#8 ∈ [0x12#8, 0x22#8] → (0#32 : BitVec 32) = 0xFFFFFFFF#32) := by decide

/-- The widest operand and the first that does not fit; the widest voltage, the first beyond it, and one that is no
multiple of 1/65536 mV. -/
theorem witness_AssembledWordIsTheCommandWritten :
    assemble (.tmpRead 255 .eeprom) = some 0x40FF010000000000#64 ∧ assemble (.tmpRead 256 .ram) = none ∧
    assemble (.dac2OutputVoltDc 255 ⟨655359999847412109375, 16⟩) = some 0x22FF0000FFFFFFFF#64 ∧
    assemble (.dac2OutputVoltDc 1 ⟨65536, 0⟩) = none ∧ assemble (.dac8OutputVoltDc 0 ⟨1, 1⟩) = none := by decide

/-- The reference, the band that is clamped with gain 2 (both ends), and the first value above it. -/
theorem witness_TwelveBitCodeBounds :
    0 < 327680000 ∧ 327680000 ≤ 327680000 ∧
    163840000 ≤ 327680000 ∧ 327680000 ≤ 2 * 163840000 ∧
    163879999 * 2 * 4096 < 327680000 * 4096 + 327680000 ∧ 327680000 ≤ 2 * 163879999 ∧
    327680000 * 4096 + 327680000 ≤ 163880000 * 2 * 4096 := by decide

theorem witness_EightBitCodeBounds :
    0 < 327680000 ∧ 164492550 ≤ 327680000 ∧ 256 * 327680000 ≤ 164492550 * 510 := by decide

theorem witness_AdcLineIsMonotoneThroughItsTwoPoints :
    4095 ≤ 4095 ∧ 4094 < 4095 ∧ 65535 ≤ 65535 ∧ 4294967295 < 2 ^ 32 := by decide

theorem witness_TwoBytesHoldTheCode : 65535 < 65536 := by decide

theorem witness_SingleGainBytesMakeTheAllGainByte : 0xF0#8 &&& 0x0F#8 = 0#8 ∧ 3 ≤ 3 := by decide

theorem witness_FirstByteMaskNeverActs : Config.ex1.failedCheck = none ∧ 1 ≤ 1 := by decide

theorem witness_ValueFieldLosesNothing : 65535 < 65536 ∧ 4294967295 < 2 ^ 32 := by decide

theorem witness_Dac8SetAllGainRule_gain : 0 ≠ 1 ∧ 0 ≠ 2 ∧ 3 ≠ 1 ∧ 3 ≠ 2 := by decide
theorem witness_Dac8SetAllGainRule_ok : (1 = 1 ∨ 1 = 2) ∧ (answering [.ok []]).replyAt 0 0 = .ok [] := by decide
theorem witness_Dac8SetAllGainRule_fail :
    (2 = 1 ∨ 2 = 2) ∧ (answering [.fail]).replyAt 0 0 = .fail ∧
    (answering [.fail]).cfg.variants.gainCommitBeforeWrite = true := by decide

theorem witness_Dac8SetSingleGainRule_aborts :
    7 < 8 ∧ (7 ≤ 7 ∧ 3 ≠ 1 ∧ 3 ≠ 2) ∧ (4 ≤ 4 ∧ 4 ≤ 7 ∧ (1 = 1 ∨ 1 = 2)) ∧ (4 ≤ 7 ∧ 7 ≤ 7) := by decide
theorem witness_Dac8SetSingleGainRule_ok :
    3 ≤ 3 ∧ (2 = 1 ∨ 2 = 2) ∧ (answering [.ok []]).cfg.variants.singleGainUpdatesShadow = true ∧
    (answering [.ok []]).replyAt 0 0 = .ok [] := by decide
theorem witness_Dac8SetSingleGainRule_fail :
    3 ≤ 3 ∧ (2 = 1 ∨ 2 = 2) ∧ (answering [.fail]).cfg.variants.singleGainUpdatesShadow = true ∧
    (answering [.fail]).replyAt 0 0 = .fail ∧ (answering [.fail]).cfg.variants.gainCommitBeforeWrite = true := by decide

theorem witness_Dac8OutputVoltDcRule :
    7 < 8 ∧ (7 ≤ 7 ∧ (answering []).cfg.dac8Vref.toNat < 327680001) ∧
    327680000 ≤ (answering [.ok []]).cfg.dac8Vref.toNat ∧ (answering [.ok []]).replyAt 0 0 = .ok [] ∧
    (answering [.fail]).replyAt 0 0 = .fail := by decide

theorem witness_OutputResetRules :
    (answering [.ok []]).replyAt 0 0 = .ok [] ∧ (answering [.fail]).replyAt 0 0 = .fail := by decide

theorem witness_Dac2SetGainRules :
    (3 ≠ 1 ∧ 3 ≠ 2) ∧ (2 = 1 ∨ 2 = 2) ∧ (answering [.ok []]).replyAt 0 0 = .ok [] ∧
    (answering [.fail]).replyAt 0 0 = .fail ∧
    (answering [.fail]).cfg.variants.gainCommitBeforeWrite = true := by decide

theorem witness_Dac2OutputVoltDcRule :
    1 < 2 ∧ (1 ≤ 1 ∧ (answering []).cfg.dac2Vref.toNat < 327680001) ∧
    327680000 ≤ (answering [.ok []]).cfg.dac2Vref.toNat ∧ (answering [.ok []]).replyAt 0 0 = .ok [] ∧
    (answering [.fail]).replyAt 0 0 = .fail := by decide

theorem witness_AdcReadRule :
    (answering [.ok [0xFF#8, 0xFF#8]]).replyAt 2 0 = .ok [0xFF#8, 0xFF#8] ∧
    (answering [.ok [0xFF#8]]).replyAt 2 0 = .fail := by decide

/-- The hypotheses that all the temperature reads share: an answer to the fifth attempt, or to none. -/
theorem witness_TmpReadRule :
    1 < 2 ∧ 1 ≤ 1 ∧ 4 ≤ 4 ∧ (∀ j < 4, (answering fourFailsThenBytes).replyAt 3 j = .fail) ∧
    (answering fourFailsThenBytes).replyAt 3 4 = .ok [0xFF#8, 0xFF#8, 0x00#8] ∧
    (∀ j < 5, (answering fiveFails).replyAt 3 j = .fail) := by decide

theorem witness_CelsiusReadRules :
    0 ≤ 4 ∧ (∀ j < 0, (answering [.ok [0#8, 0#8, 1#8]]).replyAt 3 j = .fail) ∧
    (answering [.ok [0#8, 0#8, 1#8]]).replyAt 3 0 = .ok [0#8, 0#8, 1#8] ∧
    (∀ j < 5, (answering fiveFails).replyAt 3 j = .fail) := by decide

theorem witness_FahrenheitReadRules :
    (∀ j < 4, (answering fourFailsThenBytes).replyAt 3 j = .fail) ∧
    (answering fourFailsThenBytes).replyAt 3 4 = .ok [0xFF#8, 0xFF#8, 0x00#8] ∧
    (∀ j < 5, (answering fiveFails).replyAt 3 j = .fail) ∧
    (answering fiveFails).cfg.variants.fSpecialCasesSentinel = false := by decide

/-- Raw 17757 and 17758, the two sides of the first threshold (44_temp.md R124). -/
theorem witness_GetObjRule :
    (answering [.ok [0x5D#8, 0x45#8, 0#8]]).replyAt 3 0 = .ok [0x5D#8, 0x45#8, 0#8] ∧
    ((81990 : Int) = 20 * (256 * ((0x45#8).toNat : Int) + (0x5D#8).toNat) - 273150) ∧
    ((82010 : Int) = 20 * (256 * ((0x45#8).toNat : Int) + (0x5E#8).toNat) - 273150) ∧
    (∀ j < 5, (answering fiveFails).replyAt 3 j = .fail) := by decide

theorem witness_PreconditionAbortChangesOnlyErrstat :
    (Instr.dac8SetSingleGain 8 1).violated Config.ex1 = some .channel ∧
    (Instr.dac8SetSingleGain 7 3).violated Config.ex1 = some .gain ∧
    (Instr.dac8SetSingleGain 4 2).violated Config.ex1 = some .chanLimit ∧
    (Instr.dac2OutputVoltDc 1 327680001).violated Config.ex1 = some .volt ∧
    (Instr.tmpRead 7 2).violated Config.ex1 = some .regType := by decide

theorem witness_TransportFailureIsReportedOnce :
    Instr.adcRead.transactionShape (answering [.fail]).cfg = some ⟨.read, 0x12#7, 0, 2⟩ ∧
    TransactionKind.read ≠ .writeRead ∧ Instr.adcRead.violated (answering [.fail]).cfg = none ∧
    (answering [.fail]).replyAt 2 0 = .fail ∧ (answering [.fail]).cfg.variants = Variants.documented ∧
    (Instr.dac2SetSingleGain 2).transactionShape (answering [.fail]).cfg = some ⟨.write, 0x11#7, 3, 0⟩ ∧
    (Instr.dac2SetSingleGain 2).violated (answering [.fail]).cfg = none ∧
    (answering [.fail]).replyAt 0 0 = .fail := by decide

/-- The first attempt, the last one, and the one transaction of another command. -/
theorem witness_SilentTransportHangsTheCommand :
    Instr.tmpGetObj.transactionShape (answering [.never]).cfg = some ⟨.writeRead, 0x13#7, 1, 3⟩ ∧
    Instr.tmpGetObj.violated (answering [.never]).cfg = none ∧ (answering [.never]).replyAt 3 0 = .never ∧
    4 < Instr.tmpGetObj.mostTransactions ∧
    (∀ j < 4, (answering [.fail, .fail, .fail, .fail, .never]).replyAt 3 j = .fail) ∧
    (answering [.fail, .fail, .fail, .fail, .never]).replyAt 3 4 = .never ∧
    0 < Instr.adcRead.mostTransactions ∧ (answering [.never]).replyAt 2 0 = .never := by decide

/-- A command that answers a next state: the hypothesis of the statements over all commands. -/
theorem witness_exec_answers_next :
    (∃ u, exec .adcRead (answering [.ok [0#8, 0#8]]) = .next u) ∧
    (∃ u, exec .tmpReadObjC (answering [.never]) = .next u) := ⟨⟨_, rfl⟩, ⟨_, rfl⟩⟩

theorem witness_SingleGainReachesEveryChannel :
    3 ≤ 3 ∧ (2 = 1 ∨ 2 = 2) ∧ (answering [.ok [], .ok []]).cfg.variants.singleGainUpdatesShadow = true ∧
    (answering [.ok [], .ok []]).replyAt 0 0 = .ok [] ∧ (answering [.ok [], .ok []]).replyAt 0 1 = .ok [] ∧
    7 < 8 ∧ 327680000 ≤ (answering [.ok [], .ok []]).cfg.dac8Vref.toNat := by decide

theorem witness_GainCommittedOnSuccessOnly :
    (switched { gainCommitBeforeWrite := false } [.fail]).cfg.variants.gainCommitBeforeWrite = false ∧
    (switched { gainCommitBeforeWrite := false } [.fail]).replyAt 0 0 ≠ .ok [] ∧
    (nextOf (exec (.dac8SetAllGain 2) (switched { gainCommitBeforeWrite := false } [.fail]))).isSome = true := by decide

theorem witness_SingleGainLeavesShadowAlone :
    (switched { singleGainUpdatesShadow := false } [.ok []]).cfg.variants.singleGainUpdatesShadow = false ∧
    (nextOf (exec (.dac8SetSingleGain 3 2) (switched { singleGainUpdatesShadow := false } [.ok []]))).isSome = true := by
  decide

theorem witness_FahrenheitSpecialCaseReturnsSentinel :
    (switched { fSpecialCasesSentinel := true } fiveFails).cfg.variants.fSpecialCasesSentinel = true ∧
    (∀ j < 5, (switched { fSpecialCasesSentinel := true } fiveFails).replyAt 3 j = .fail) := by decide

theorem witness_StepRunsTheDecodedCommand :
    { State.reset with inputs := [.command 0x46FFFF00FFFFFFFF#64] }.Ready ∧
    decode 0x46FFFF00FFFFFFFF#64 = .ok .tmpReadStart := by decide

theorem witness_IllegalWordOnlySetsIll :
    { State.reset with inputs := [.command 0x4600000100000000#64] }.Ready ∧
    decode 0x4600000100000000#64 = .error (.reservedField 1#8) := by decide

theorem witness_EveryWordGivesOneResponse :
    { State.reset with inputs := [.command 0#64] }.Ready ∧
    { State.reset with inputs := [.command 0#64] }.inputs = .command 0#64 :: [] := by decide

/-- Both cases of the two statements on responses occur: a command answered, and one that is never answered. -/
theorem witness_exec_silent :
    (answering [.never]).SilentTo .adcRead ∧
    ((ran 0x3000000000000000#64 [.never]).map fun u => (u.inFlight.isSome, u.responses)) = some (true, []) ∧
    ((ran 0x3000000000000000#64 [.fail]).map fun u => (u.inFlight.isSome, u.responses.length)) = some (false, 1) :=
  ⟨⟨by decide, ⟨.read, 0x12#7, 0, 2⟩, 0, by decide, by decide, fun j hj => absurd hj (by omega), by decide⟩, by decide,
    by decide⟩

theorem witness_IdleHoldsState : State.reset.Ready ∧ State.reset.inputs = [] := by decide

theorem witness_HungMachineIsStuckUntilReset :
    (State.reset.hang ⟨.read, 0x12#7, [], 2⟩).cfg.failedCheck = none ∧
    (State.reset.hang ⟨.read, 0x12#7, [], 2⟩).inFlight = some ⟨.read, 0x12#7, [], 2⟩ ∧
    (State.reset.hang ⟨.read, 0x12#7, [], 2⟩).NextIsNoReset :=
  ⟨by decide, by decide, fun _ _ h => by cases h⟩

theorem witness_ResetLoadsTheConfiguration :
    { State.reset with inputs := [.reset Config.ex1] }.inputs = .reset Config.ex1 :: [] ∧
    Config.ex1.failedCheck = none := by decide

/-- Each check of R12 fails alone, at the boundary of its range; the last accepted value on its other side passes. -/
theorem witness_WellFormedConfigurations :
    { Config.ex1 with dac8Addr := 127, dac2CmdOut := 127, dac2CmdGain := 127, dac2RegGain := 31 }.failedCheck = none ∧
    { Config.ex1 with adcVref := 0#32 }.failedCheck = none := by decide

theorem witness_BadConfigurationIsRefusedByName :
    { Config.ex1 with dac8Addr := 128 }.failedCheck = some .dac8Addr ∧
    { Config.ex1 with dac2Addr := 128 }.failedCheck = some .dac2Addr ∧
    { Config.ex1 with adcAddr := 128 }.failedCheck = some .adcAddr ∧
    { Config.ex1 with tmpAddr := 128 }.failedCheck = some .tmpAddr ∧
    { Config.ex1 with dac8Vref := 0#32 }.failedCheck = some .dac8Vref ∧
    { Config.ex1 with dac2Vref := 0#32 }.failedCheck = some .dac2Vref ∧
    { Config.ex1 with dac8Gain0 := 3#8 }.failedCheck = some .dac8Gain0 ∧
    { Config.ex1 with dac2Gain0 := 0#8 }.failedCheck = some .dac2Gain0 ∧
    { Config.ex1 with dac8GainOpc := 0xA1#8 }.failedCheck = some .dac8GainOpc ∧
    { Config.ex1 with dac2RegGain := 32 }.failedCheck = some .dac2GainFirst ∧
    { Config.ex1 with dac2CmdOut := 128 }.failedCheck = some .dac2OutFirst := by decide

/-- A step that is no reset and answers a next state: the hypotheses of the statement on ERRSTAT. -/
theorem witness_ErrstatIsStickyUntilReset :
    { State.reset with inputs := [.command 0#64] }.NextIsNoReset ∧
    (nextOf (step { State.reset with inputs := [.command 0#64] })).isSome = true :=
  ⟨fun _ _ h => (by cases h), by decide⟩

/-- A state that meets the three invariants, with a nonempty history, and takes a step. -/
theorem witness_StepKeeps :
    ((ran 0x3000000000000000#64 [.ok [0#8, 0#8]]).map fun u => decide u.Inv) = some true ∧
    ((ran 0x3000000000000000#64 [.ok [0#8, 0#8]]).map fun u =>
      (u.trace.map shapeOf, u.responses, (nextOf (step u)).isSome)) =
      some ([⟨.read, 0x12#7, 0, 2⟩], [0#64], true) ∧
    Instr.adcRead.transactionShape Config.ex1 = some ⟨.read, 0x12#7, 0, 2⟩ := by decide

theorem witness_ResetHasLegalGains : { Config.ex1 with dac8Gain0 := 2#8 }.failedCheck = none := by decide

theorem witness_MonitorAsksOnlyWhilePolling :
    { State.reset with pollActive := 1#1 }.pollActive = 1#1 ∧ State.reset.pollActive = 0#1 := by decide

end Sys2Proof.Tests
end

/-! ### 00_scope.md: the decoder's operands fit their fields, and one command word is one step -/

section
namespace Sys2Proof

/-- An operand taken from an eight-bit field fits it (30_encoding.md R51). -/
@[simp] theorem fitsByte_toNat (b : Byte) : fitsByte b.toNat = true := decide_eq_true b.isLt

/-- An operand taken from the field V fits it (30_encoding.md R51). -/
@[simp] theorem fitsVolt_toNat (v : BitVec 32) : fitsVolt v.toNat = true := decide_eq_true v.isLt

/-- Whatever row is selected, its operands are whole fields, so they fit them. -/
theorem decodeRow_wellFormed (opc a b : Byte) (v : BitVec 32) (i : Instr)
    (h : decodeRow opc a.toNat b.toNat v.toNat = .ok i) : i.wellFormed = true := by
  unfold decodeRow at h
  split at h <;> cases h <;> simp [Instr.wellFormed]

/-- A word decodes only when its Z is zero, and then to the row its OPC selects (30_encoding.md R53). -/
theorem decode_eq_ok_iff (w : CommandWord) (i : Instr) :
    decode w = .ok i ↔
      fieldZ w = 0#8 ∧ decodeRow (fieldOpc w) (fieldA w).toNat (fieldB w).toNat (fieldV w).toNat = .ok i := by
  by_cases hz : fieldZ w = 0#8 <;> simp [decode, hz]

/-- The decoder yields well-formed commands only. -/
theorem decode_wellFormed (w : CommandWord) (i : Instr) (h : decode w = .ok i) : i.wellFormed = true := by
  obtain ⟨-, hrow⟩ := (decode_eq_ok_iff w i).mp h
  exact decodeRow_wellFormed _ _ _ _ i hrow

end Sys2Proof

namespace Sys2Proof.Machine

/-- A ready state lets the event happen (10_state.md R12; 70_reset_and_hazards.md R165). -/
theorem whenReady_of_ready (s : State) (go : Host.Outcome State Fault Refusal) (h : s.Ready) :
    s.whenReady go = go := by
  obtain ⟨hcfg, hflight⟩ := h
  simp [State.whenReady, hcfg, hflight]

theorem takeInput_of_inputs (s : State) (e : Input) (rest : List Input) (h : s.inputs = e :: rest) :
    s.takeInput = { s with inputs := rest } := by
  simp [State.takeInput, h]

theorem runWord_of_decode_ok (w : CommandWord) (i : Instr) (s : State) (h : decode w = .ok i) :
    runWord w s = exec i s := by
  simp [runWord, h]

/-- In a ready state the step on a command word runs that word, legal or not (00_scope.md R6). -/
theorem step_command (s : State) (w : CommandWord) (rest : List Input) (hr : s.Ready)
    (hi : s.inputs = .command w :: rest) : step s = runWord w { s with inputs := rest } := by
  rw [← takeInput_of_inputs s _ rest hi, step, runNextInput, hi]
  exact whenReady_of_ready s _ hr

/-- Settles O36: the meaning of every one of the 17 commands is written as a next state. -/
theorem everyCommandTakesANextState : Obligations.EveryCommandTakesANextState := by
  intro i s
  cases i <;> exact ⟨_, rfl⟩

/-- Settles O43: the decoder's operands fit their fields, and a ready state takes the word from the list and runs it. -/
theorem stepRunsTheDecodedCommand : Obligations.StepRunsTheDecodedCommand := by
  intro s w rest i hready hinputs hdecode
  refine ⟨decode_wellFormed w i hdecode, ?_⟩
  calc step s
    _ = runWord w { s with inputs := rest } := step_command s w rest hready hinputs
    _ = exec i { s with inputs := rest } := runWord_of_decode_ok w i _ hdecode

end Sys2Proof.Machine
end

/-! ### 10_state.md: what a command can do to the registers -/

section
namespace Sys2Proof.Machine

/-- What ends a bus command writes no register but ERRSTAT, and neither the configuration nor the host's events. -/
theorem BusEnded.frame {i : Instr} {t : Transaction} {n : Nat} {pre u : State} (h : BusEnded i t n pre u) :
    u.cfg = pre.cfg ∧ u.inputs = pre.inputs ∧ u.dac8Gain = pre.dac8Gain ∧ u.dac2Gain = pre.dac2Gain ∧
      u.pollActive = pre.pollActive := by
  rcases h with ⟨v, rfl⟩ | ⟨v, -, rfl⟩ | ⟨-, rfl⟩ | ⟨-, -, rfl⟩ <;> exact ⟨rfl, rfl, rfl, rfl, rfl⟩

theorem GainWritten.errstat_eq {i : Instr} {s pre : State} (h : GainWritten i s pre) : pre.errstat = s.errstat := by
  rcases h with rfl | ⟨g, -, rfl, -⟩ | ⟨g, -, rfl, -⟩ <;> rfl

/-- Settles O37: of what a command can have done, only the gain write and the flag write touch a register other than
ERRSTAT, and each names its commands. -/
theorem onlyTheNamedCommandsWriteARegister : Obligations.OnlyTheNamedCommandsWriteARegister := by
  intro i s u h
  cases exec_inversion i s u h with
  | aborted st _ => exact ⟨rfl, rfl, .inl rfl, .inl rfl, .inl rfl⟩
  | flag b v hi => exact ⟨rfl, rfl, .inl rfl, .inl rfl, .inr (hi.imp And.left And.left)⟩
  | bus t n pre u _ _ _ hp hu =>
    obtain ⟨hcfg, hin, h8, h2, hpoll⟩ := hu.frame
    rcases hp with rfl | ⟨g, hg, rfl, hi⟩ | ⟨g, hg, rfl, hi⟩
    · exact ⟨hcfg, hin, .inl h8, .inl h2, .inl hpoll⟩
    · exact ⟨hcfg, hin, .inr ⟨g, h8, hg, hi⟩, .inl h2, .inl hpoll⟩
    · exact ⟨hcfg, hin, .inl h8, .inr ⟨g, h2, hg, hi⟩, .inl hpoll⟩

/-! #### ERRSTAT only gains bits, and no reserved one (10_state.md R15, R20) -/

/-- ERRSTAT of `u` is that of `s` with bits set that are no reserved ones. -/
def ErrGrows (s u : State) : Prop := ∃ bits : Byte, bits.extractLsb' 4 4 = 0#4 ∧ u.errstat = s.errstat ||| bits

theorem ErrGrows.of_eq {s u : State} (h : u.errstat = s.errstat) : ErrGrows s u := ⟨0#8, rfl, by simp [h]⟩

/-- A set bit stays set: absorption. -/
theorem ErrGrows.sticky {s u : State} (h : ErrGrows s u) : s.errstat &&& u.errstat = s.errstat := by
  obtain ⟨bits, -, hu⟩ := h
  rw [hu]
  ext k
  simpa using Or.inl

theorem ErrGrows.reserved {s u : State} (h : ErrGrows s u) (hs : s.errstat.extractLsb' 4 4 = 0#4) :
    u.errstat.extractLsb' 4 4 = 0#4 := by
  obtain ⟨bits, hbits, hu⟩ := h
  rw [hu, BitVec.extractLsb'_or, hs, hbits, BitVec.or_self]

/-- No status sets a reserved bit of ERRSTAT. -/
theorem errBit_reserved (st : Status) : st.errBit.extractLsb' 4 4 = 0#4 := by
  cases st <;> rfl

theorem abort_errGrows (s : State) (st : Status) : ErrGrows s (s.abort st) := ⟨st.errBit, errBit_reserved st, rfl⟩

theorem BusEnded.errGrows {i : Instr} {t : Transaction} {n : Nat} {pre u : State} (h : BusEnded i t n pre u) :
    ErrGrows pre u := by
  rcases h with ⟨v, rfl⟩ | ⟨v, -, rfl⟩ | ⟨-, rfl⟩ | ⟨-, -, rfl⟩
  · exact .of_eq rfl
  · exact ⟨bitSent, rfl, rfl⟩
  · exact abort_errGrows (pre.issued t n) .transport
  · exact .of_eq rfl

theorem exec_errGrows (i : Instr) (s u : State) (h : exec i s = .next u) : ErrGrows s u := by
  cases exec_inversion i s u h with
  | aborted st _ => exact abort_errGrows s st
  | flag b v _ => exact .of_eq rfl
  | bus t n pre u _ _ _ hp hu =>
    obtain ⟨bits, hbits, he⟩ := hu.errGrows
    exact ⟨bits, hbits, hp.errstat_eq ▸ he⟩

/-! #### The configuration checks (10_state.md R12) -/

theorem configFailure_eq_none (bad : Bool) (name : ConfigCheck) : configFailure bad name = none ↔ bad = false := by
  cases bad <;> simp [configFailure]

/-- Settles O49: the first failure of a list of checks is none exactly when every check passes. -/
theorem wellFormedConfigurations : Obligations.WellFormedConfigurations := by
  intro c
  simp only [Config.failedCheck, List.findSome?_eq_none_iff, List.forall_mem_cons, id_eq, configFailure_eq_none,
    decide_eq_false_iff_not]
  simp [or_iff_not_imp_left]

theorem whenReady_of_badConfig (s : State) (go : Host.Outcome State Fault Refusal) (failed : ConfigCheck)
    (h : s.cfg.failedCheck = some failed) : s.whenReady go = .refused (.badConfig failed) := by
  simp [State.whenReady, h]

theorem runReset_of_badConfig (c : Config) (s : State) (failed : ConfigCheck) (h : c.failedCheck = some failed) :
    runReset c s = .refused (.badConfig failed) := by
  simp [runReset, h]

/-- An event that is no reset waits for readiness. -/
theorem step_of_noReset (s : State) (h : s.NextIsNoReset) : ∃ go, step s = s.whenReady go := by
  rw [step, runNextInput]
  split
  next => exact ⟨_, rfl⟩
  next => exact ⟨_, rfl⟩
  next c rest hi => exact absurd hi (h c rest)

theorem step_reset (s : State) (c : Config) (rest : List Input) (h : s.inputs = .reset c :: rest) :
    step s = runReset c s.takeInput := by
  rw [step, runNextInput, h]

/-- Settles O50: readiness and reset each look at the checks first. -/
theorem badConfigurationIsRefusedByName : Obligations.BadConfigurationIsRefusedByName := by
  constructor
  · intro s failed hbad hno
    obtain ⟨go, hstep⟩ := step_of_noReset s hno
    rw [hstep, whenReady_of_badConfig s go failed hbad]
  · intro s c rest failed hin hbad
    rw [step_reset s c rest hin, runReset_of_badConfig c _ failed hbad]

/-! #### Reset (10_state.md R20, R22) -/

/-- The checks of a configuration include those of its two initial gains. -/
theorem resetWith_inv (c : Config) (h : c.failedCheck = none) : (State.resetWith c).Inv := by
  obtain ⟨-, -, -, -, -, -, h8, h2, -⟩ := (wellFormedConfigurations c).mp h
  exact ⟨h8, h2, BitVec.extractLsb'_zero⟩

/-- Settles O53: `State.reset` is a reset with EX1, which is well formed. -/
theorem resetHasLegalGains : Obligations.ResetHasLegalGains :=
  ⟨resetWith_inv Config.ex1 (by decide), resetWith_inv⟩

/-- Settles O57: read off `State.resetWith`, register by register. -/
theorem resetValues : Obligations.ResetValues :=
  ⟨rfl, rfl, fun _ => ⟨rfl, rfl, rfl, rfl, rfl, rfl⟩⟩

/-! #### What a step keeps (10_state.md R15, R20) -/

theorem step_errGrows (s u : State) (hno : s.NextIsNoReset) (h : step s = .next u) : ErrGrows s u := by
  rcases step_inversion s u h with ⟨c, rest, hin, -⟩ | ⟨-, -, rfl | rfl | ⟨i, hi⟩⟩
  · exact absurd hin (hno c rest)
  · exact .of_eq rfl
  · exact abort_errGrows s.takeInput .illegal
  · exact exec_errGrows i s.takeInput u hi

/-- Settles O51: a step that is no reset only sets bits. -/
theorem errstatIsStickyUntilReset : Obligations.ErrstatIsStickyUntilReset :=
  fun s u hno h => (step_errGrows s u hno h).sticky

/-- A command leaves a gain as it was, or writes 1 or 2 to it. -/
theorem exec_gainsLegal (i : Instr) (s u : State) (h : exec i s = .next u)
    (h8 : s.dac8Gain = 1#8 ∨ s.dac8Gain = 2#8) (h2 : s.dac2Gain = 1#8 ∨ s.dac2Gain = 2#8) :
    (u.dac8Gain = 1#8 ∨ u.dac8Gain = 2#8) ∧ (u.dac2Gain = 1#8 ∨ u.dac2Gain = 2#8) := by
  obtain ⟨-, -, e8, e2, -⟩ := onlyTheNamedCommandsWriteARegister i s u h
  constructor
  · rcases e8 with e | ⟨g, e, rfl | rfl, -⟩
    · rwa [e]
    · exact .inl e
    · exact .inr e
  · rcases e2 with e | ⟨g, e, rfl | rfl, -⟩
    · rwa [e]
    · exact .inl e
    · exact .inr e

theorem exec_keeps_inv (i : Instr) (s u : State) (hs : s.Inv) (h : exec i s = .next u) : u.Inv := by
  obtain ⟨h8, h2, herr⟩ := hs
  obtain ⟨u8, u2⟩ := exec_gainsLegal i s u h h8 h2
  exact ⟨u8, u2, (exec_errGrows i s u h).reserved herr⟩

theorem abort_keeps_inv (s : State) (st : Status) (hs : s.Inv) : (s.abort st).Inv := by
  obtain ⟨h8, h2, herr⟩ := hs
  exact ⟨h8, h2, (abort_errGrows s st).reserved herr⟩

/-- Settles O52: a step is a reset with a well-formed configuration, idle, an illegal word, or one command, and each
keeps the invariant. -/
theorem stepKeepsGainsLegal : Obligations.StepKeepsGainsLegal := by
  intro s u hs h
  rcases step_inversion s u h with ⟨c, rest, -, hc, rfl⟩ | ⟨-, -, rfl | rfl | ⟨i, hi⟩⟩
  · exact resetWith_inv c hc
  · exact hs
  · exact abort_keeps_inv s.takeInput .illegal hs
  · exact exec_keeps_inv i s.takeInput u hs hi

/-! #### The observation port (10_state.md R21) -/

/-- Settles O58: a flag of one bit is 0 or 1, and widening puts zeros above it. -/
theorem observationPortReadsTheRegisters : Obligations.ObservationPortReadsTheRegisters := by
  intro s
  refine ⟨rfl, rfl, ?_, rfl⟩
  rw [State.readRegister]
  rcases BitVec.eq_zero_or_eq_one s.pollActive with h | h <;> rw [h] <;> rfl

end Sys2Proof.Machine
end

/-! ### 10_state.md R14, R15: no command looks at POLL_ACTIVE or ERRSTAT -/

section
namespace Sys2Proof.Machine

/-- The state with other values in POLL_ACTIVE and ERRSTAT. -/
def State.withFlags (poll : BitVec 1) (err : Byte) (s : State) : State := { s with pollActive := poll, errstat := err }

/-- From states that differ only in POLL_ACTIVE and ERRSTAT, `f` leads to states that differ only there. -/
def BlindToFlags (f : State → State) : Prop :=
  ∀ s poll err, ∃ poll' err', f (s.withFlags poll err) = (f s).withFlags poll' err'

@[simp] theorem replyAt_withFlags (s : State) (poll : BitVec 1) (err : Byte) (n k : Nat) :
    (s.withFlags poll err).replyAt n k = s.replyAt n k := rfl

/-! #### The operations -/

theorem blind_id : BlindToFlags id := fun _ poll err => ⟨poll, err, rfl⟩

theorem BlindToFlags.comp {f g : State → State} (hg : BlindToFlags g) (hf : BlindToFlags f) :
    BlindToFlags fun s => g (f s) := by
  intro s poll err
  obtain ⟨p1, e1, h1⟩ := hf s poll err
  obtain ⟨p2, e2, h2⟩ := hg (f s) p1 e1
  exact ⟨p2, e2, (congrArg g h1).trans h2⟩

theorem blind_withDac8Gain (g : Nat) : BlindToFlags (State.withDac8Gain g) := fun _ poll err => ⟨poll, err, rfl⟩

theorem blind_withDac2Gain (g : Nat) : BlindToFlags (State.withDac2Gain g) := fun _ poll err => ⟨poll, err, rfl⟩

theorem blind_withPollActive (b : BitVec 1) : BlindToFlags (State.withPollActive b) := fun _ _ err => ⟨b, err, rfl⟩

theorem blind_setErr (bits : Byte) : BlindToFlags (State.setErr bits) :=
  fun _ poll err => ⟨poll, err ||| bits, rfl⟩

theorem blind_deliver (rw : ResponseWord) : BlindToFlags (State.deliver rw) := fun _ poll err => ⟨poll, err, rfl⟩

theorem blind_respond (v : BitVec 48) : BlindToFlags (State.respond v) := blind_deliver _

theorem blind_abort (st : Status) : BlindToFlags (State.abort st) := (blind_deliver _).comp (blind_setErr _)

theorem blind_issue (t : Transaction) : BlindToFlags (State.issue t) := fun _ poll err => ⟨poll, err, rfl⟩

theorem blind_hang (t : Transaction) : BlindToFlags (State.hang t) := fun _ poll err => ⟨poll, err, rfl⟩

/-- The answer decides how an exchange goes on, and it is the same in both states. -/
theorem blind_exchange (t : Transaction) {onOk : List Byte → State → State} {onFail : State → State}
    (hok : ∀ rx, BlindToFlags (onOk rx)) (hfail : BlindToFlags onFail) :
    BlindToFlags (State.exchange t onOk onFail) := by
  intro s poll err
  simp only [State.exchange, replyAt_withFlags]
  cases s.replyAt t.rdlen 0 with
  | ok rx => exact (hok rx).comp (blind_issue t) s poll err
  | fail => exact hfail.comp (blind_issue t) s poll err
  | never => exact (blind_hang t).comp (blind_issue t) s poll err

theorem blind_guarded (checks : List (Option Status)) {body : State → State} (h : BlindToFlags body) :
    BlindToFlags (State.guarded checks body) := by
  intro s poll err
  unfold State.guarded
  cases firstViolation checks with
  | some st => exact blind_abort st s poll err
  | none => exact h s poll err

theorem blind_dacWrite (addr : Nat) (bytes : List Byte) {onOk : State → State} (h : BlindToFlags onOk) :
    BlindToFlags (State.dacWrite addr bytes onOk) :=
  blind_exchange _ (fun _ => (blind_respond _).comp h) (blind_abort _)

/-- The gain write under the default of the switch of D18. -/
theorem gainWrite_commitFirst (s : State) (addr : Nat) (bytes : List Byte) (commit : State → State)
    (h : s.cfg.variants.gainCommitBeforeWrite = true) :
    s.gainWrite addr bytes commit = (commit s).dacWrite addr bytes id := by
  rw [gainWrite_eq, if_pos h]

/-- The gain write under the switch of D18 set to false. -/
theorem gainWrite_commitOnOk (s : State) (addr : Nat) (bytes : List Byte) (commit : State → State)
    (h : ¬ s.cfg.variants.gainCommitBeforeWrite = true) :
    s.gainWrite addr bytes commit = s.dacWrite addr bytes commit := by
  rw [gainWrite_eq, if_neg h]

theorem blind_gainWrite (addr : Nat) (bytes : List Byte) {commit : State → State} (h : BlindToFlags commit) :
    BlindToFlags (State.gainWrite addr bytes commit) := by
  intro s poll err
  by_cases hc : s.cfg.variants.gainCommitBeforeWrite = true
  · rw [gainWrite_commitFirst s _ _ _ hc, gainWrite_commitFirst (s.withFlags poll err) _ _ _ hc]
    exact (blind_dacWrite addr bytes blind_id).comp h s poll err
  · rw [gainWrite_commitOnOk s _ _ _ hc, gainWrite_commitOnOk (s.withFlags poll err) _ _ _ hc]
    exact blind_dacWrite addr bytes h s poll err

theorem blind_treadLoop (t : Transaction) {done : Int → State → State} (h : ∀ v, BlindToFlags (done v)) (n : Nat) :
    BlindToFlags (State.treadLoop t done n) := by
  induction n with
  | zero => exact (h sentinel).comp (blind_setErr bitSent)
  | succ n ih => exact blind_exchange t (fun _ => h _) ih

theorem blind_tread (a : Nat) (type : RegType) (convert : Int → Int) : BlindToFlags (State.tread a type convert) :=
  fun s => blind_treadLoop (treadTransaction s.cfg a type) (fun _ => blind_respond _) 5 s

theorem blind_dac2WriteGain (gain : Nat) : BlindToFlags (State.dac2WriteGain gain) :=
  blind_guarded _ fun s poll err => blind_gainWrite _ _ (blind_withDac2Gain gain) s poll err

/-- The shadow write of the single-channel gain command, with the switch of D17 either way. -/
theorem blind_singleGainCommit (updates : Bool) (gain : Nat) :
    BlindToFlags (if updates then State.withDac8Gain gain else id) := by
  cases updates with
  | true => exact blind_withDac8Gain gain
  | false => exact blind_id

/-! #### The commands -/

/-- A command whose meaning is one blind operation ends, from states that differ only in the flags, in such states. -/
theorem BlindToFlags.next {f : State → State} (hf : BlindToFlags f) {s u : State} (poll : BitVec 1) (err : Byte)
    (h : (.next (f s) : Host.Outcome State Fault Refusal) = .next u) :
    ∃ poll' err', (.next (f (s.withFlags poll err)) : Host.Outcome State Fault Refusal) =
      .next (u.withFlags poll' err') := by
  cases h
  obtain ⟨poll', err', e⟩ := hf s poll err
  exact ⟨poll', err', congrArg _ e⟩

/-- Every command is blind: a gain or output write, the ADC's read, TREAD, or a flag write, under its checks. -/
theorem exec_withFlags (i : Instr) (s u : State) (poll : BitVec 1) (err : Byte) (h : exec i s = .next u) :
    ∃ poll' err', exec i (s.withFlags poll err) = .next (u.withFlags poll' err') := by
  cases i with
  | dac8SetAllGain gain =>
    refine BlindToFlags.next (blind_guarded _ fun s poll err => ?_) poll err h
    exact blind_gainWrite _ _ (blind_withDac8Gain gain) s poll err
  | dac8SetSingleGain channel gain =>
    refine BlindToFlags.next (blind_guarded _ fun s poll err => ?_) poll err h
    exact blind_gainWrite _ _ (blind_singleGainCommit _ gain) s poll err
  | dac2SetAllGain gain | dac2SetSingleGain gain => exact (blind_dac2WriteGain gain).next poll err h
  | dac8OutputVoltDc channel volt | dac2OutputVoltDc channel volt =>
    refine BlindToFlags.next (fun s poll err => blind_guarded _ (fun s poll err => ?_) s poll err) poll err h
    exact blind_dacWrite _ _ blind_id s poll err
  | dac8OutputReset | dac2OutputReset =>
    exact BlindToFlags.next (fun s poll err => blind_dacWrite _ _ blind_id s poll err) poll err h
  | adcRead =>
    refine BlindToFlags.next (fun s poll err => ?_) poll err h
    exact blind_exchange _ (fun _ => blind_respond _) (blind_abort _) s poll err
  | tmpRead registerAddress registerType =>
    exact (blind_guarded _ (blind_tread registerAddress (regTypeOf registerType) id)).next poll err h
  | tmpReadObjC | tmpReadObjF | tmpReadAmbC | tmpReadAmbF | tmpGetObj =>
    exact BlindToFlags.next (fun s poll err => blind_tread _ _ _ s poll err) poll err h
  | tmpReadStart => exact ((blind_respond 1#48).comp (blind_withPollActive 1#1)).next poll err h
  | tmpReadStop => exact ((blind_respond 0#48).comp (blind_withPollActive 0#1)).next poll err h

/-- Settles O38: states that differ only in the two registers agree on everything the statement lists. -/
theorem flagAndErrstatInfluenceNothing : Obligations.FlagAndErrstatInfluenceNothing := by
  intro i s u poll err h
  obtain ⟨poll', err', hu'⟩ := exec_withFlags i s u poll err h
  exact ⟨u.withFlags poll' err', hu', rfl, rfl, rfl, rfl, rfl, rfl⟩

end Sys2Proof.Machine
end

/-! ### 20_memory.md: the bytes that address a register, and the transactions a command issues -/

section
namespace Sys2Proof.Machine

/-! #### TBANK and FIRST2 (20_memory.md R37, R38) -/

/-- Five address bits leave bit 5 clear, so setting it adds 32. -/
theorem five_bits_or_bank (a : Nat) : (a &&& 0x1F) ||| 0x20 = 32 + a % 32 := by
  have hmask : a &&& 0x1F = a % 2 ^ 5 := Nat.and_two_pow_sub_one_eq_mod a 5
  have hlt : a % 2 ^ 5 < 2 ^ 5 := Nat.mod_lt a (by decide)
  calc (a &&& 0x1F) ||| 0x20
    _ = 0x20 ||| a % 2 ^ 5 := by rw [hmask, Nat.or_comm]
    _ = 32 + a % 32 := (Nat.two_pow_add_eq_or_of_lt hlt 1).symm

theorem tbank_ram_toNat (a : Nat) : (tbank a .ram).toNat = a % 32 := by
  have hmask : a &&& 0x1F = a % 32 := Nat.and_two_pow_sub_one_eq_mod a 5
  rw [tbank, hmask, BitVec.toNat_ofNat]
  omega

theorem tbank_eeprom_toNat (a : Nat) : (tbank a .eeprom).toNat = 32 + a % 32 := by
  rw [tbank, five_bits_or_bank, BitVec.toNat_ofNat]
  omega

/-- Settles O12: the low five bits are the remainder by 32, and both bytes are below 64. -/
theorem bankByteIsBankAndFiveAddressBits : Obligations.BankByteIsBankAndFiveAddressBits :=
  fun a => ⟨tbank_ram_toNat a, tbank_eeprom_toNat a⟩

/-- FIRST2 masks its two shifted fields as `lo` masks a code. -/
theorem first2_eq_lo (command address : Nat) :
    first2 command address = lo ((command <<< 1) ||| (address <<< 3)) := rfl

theorem lo_toNat_of_lt (c : Nat) (h : c < 256) : (lo c).toNat = c := by
  rw [lo_eq, BitVec.toNat_ofNat]
  omega

theorem first2_toNat_of_lt (command address : Nat) (h : (command <<< 1) ||| (address <<< 3) < 256) :
    (first2 command address).toNat = (command <<< 1) ||| (address <<< 3) := by
  rw [first2_eq_lo, lo_toNat_of_lt _ h]

/-- The check on DAC2_CMD_OUT is made at channel 1, whose frame byte is the largest. -/
theorem outFirst_lt (command channel : Nat) (h : (command <<< 1) ||| (1 <<< 3) < 256) (hc : channel ≤ 1) :
    (command <<< 1) ||| (channel <<< 3) < 256 := by
  rcases Nat.le_one_iff_eq_zero_or_eq_one.mp hc with rfl | rfl
  · rw [Nat.zero_shiftLeft, Nat.or_zero]
    exact lt_of_le_of_lt Nat.left_le_or h
  · exact h

/-- Settles O13: the last two checks of a configuration bound what the mask is applied to. -/
theorem firstByteMaskNeverActs : Obligations.FirstByteMaskNeverActs := by
  intro c hc
  obtain ⟨-, -, -, -, -, -, -, -, -, hgain, hout⟩ := (wellFormedConfigurations c).mp hc
  exact ⟨first2_toNat_of_lt _ _ hgain, fun channel hch => first2_toNat_of_lt _ _ (outFirst_lt _ channel hout hch)⟩

/-! #### The transactions of a command (20_memory.md R36, R41, R42) -/

/-- A gain write issues no transaction. -/
theorem GainWritten.busFrame {i : Instr} {s pre : State} (h : GainWritten i s pre) :
    pre.trace = s.trace ∧ pre.answers = s.answers ∧ pre.busCount = s.busCount := by
  rcases h with rfl | ⟨g, -, rfl, -⟩ | ⟨g, -, rfl, -⟩ <;> exact ⟨rfl, rfl, rfl⟩

/-- However a bus command ends, its `n` transactions are in the trace and their answers are consumed. -/
theorem BusEnded.issued_eq {i : Instr} {t : Transaction} {n : Nat} {pre u : State} (h : BusEnded i t n pre u) :
    u.trace = pre.trace ++ List.replicate n t ∧ u.answers = pre.answers.drop n ∧ u.busCount = pre.busCount + n := by
  rcases h with ⟨v, rfl⟩ | ⟨v, -, rfl⟩ | ⟨-, rfl⟩ | ⟨-, -, rfl⟩ <;> exact ⟨rfl, rfl, rfl⟩

/-- Settles O35: an abort and a flag write issue nothing, and a bus command repeats one transaction of its row. -/
theorem commandIssuesTransactionsOfItsRow : Obligations.CommandIssuesTransactionsOfItsRow := by
  intro i s u h
  cases exec_inversion i s u h with
  | aborted st _ => exact ⟨[], by simp⟩
  | flag b v _ => exact ⟨[], by simp⟩
  | bus t n pre u _ hshape hn hpre hu =>
    obtain ⟨htrace, hanswers, hcount⟩ := hu.issued_eq
    obtain ⟨ptrace, panswers, pcount⟩ := hpre.busFrame
    refine ⟨List.replicate n t, ?_, ?_, ?_, ?_, fun t' ht' => ?_⟩
    · rw [htrace, ptrace]
    · rw [List.length_replicate]
      exact hn.2
    · rw [hanswers, panswers, List.length_replicate]
    · rw [hcount, pcount, List.length_replicate]
    · rw [List.eq_of_mem_replicate ht']
      exact hshape

/-! #### The trace stays legal (20_memory.md R36, R41) -/

/-- What a command appends to the trace is of its own row, and it leaves the configuration, hence the rows, alone. -/
theorem exec_keeps_traceLegal (i : Instr) (s u : State) (hs : s.TraceLegal) (h : exec i s = .next u) :
    u.TraceLegal := by
  obtain ⟨issued, htrace, -, -, -, hrow⟩ := commandIssuesTransactionsOfItsRow i s u h
  obtain ⟨hcfg, -⟩ := onlyTheNamedCommandsWriteARegister i s u h
  intro t ht
  rw [hcfg]
  rw [htrace] at ht
  rcases List.mem_append.mp ht with hold | hnew
  · exact hs t hold
  · exact ⟨i, hrow t hnew⟩

/-- Settles O54: a reset empties the trace, an idle step and an illegal word leave it, and a command keeps it legal. -/
theorem stepKeepsTraceLegal : Obligations.StepKeepsTraceLegal := by
  intro s u hs h
  rcases step_inversion s u h with ⟨c, rest, -, -, rfl⟩ | ⟨-, -, rfl | rfl | ⟨i, hi⟩⟩
  · exact List.forall_mem_nil _
  · exact hs
  · exact hs
  · exact exec_keeps_traceLegal i s.takeInput u hs hi

end Sys2Proof.Machine
end

/-! ### 30_encoding.md: the decoder, the encoder and the assembler, and the one response of a command word -/

section
namespace Sys2Proof

/-! #### The rows (30_encoding.md R52) -/

/-- A command's operation code and operands select the command. -/
theorem decodeRow_operands (i : Instr) : decodeRow i.opcode i.operandA i.operandB i.operandV = .ok i := by
  cases i <;> rfl

/-- The operation code alone selects the row; the operands may be any. -/
theorem decodeRow_opcode (i : Instr) (a b v : Nat) :
    ∃ j, decodeRow i.opcode a b v = .ok j ∧ j.opcode = i.opcode := by
  cases i <;> exact ⟨_, rfl, rfl⟩

/-- The command that an operation code selects is of the row of that code. -/
theorem opcode_of_decodeRow_ok (opc : Byte) (a b v : Nat) (i : Instr) (h : decodeRow opc a b v = .ok i) :
    i.opcode = opc := by
  unfold decodeRow at h
  split at h <;> cases h <;> rfl

/-- A row has one way to fail, which names the operation code. -/
theorem eq_of_decodeRow_error (opc : Byte) (a b v : Nat) (e : DecodeError) (h : decodeRow opc a b v = .error e) :
    e = .unknownOpcode opc := by
  unfold decodeRow at h
  split at h <;> cases h
  rfl

/-- A code that is no command's selects no row. -/
theorem decodeRow_of_no_opcode (opc : Byte) (a b v : Nat) (h : ∀ i : Instr, i.opcode ≠ opc) :
    decodeRow opc a b v = .error (.unknownOpcode opc) := by
  cases hrow : decodeRow opc a b v with
  | ok i => exact absurd (opcode_of_decodeRow_ok opc a b v i hrow) (h i)
  | error e => rw [eq_of_decodeRow_error opc a b v e hrow]

/-- The codes of the 17 rows. -/
theorem opcode_mem (i : Instr) : i.opcode ∈ [0x10#8, 0x11#8, 0x12#8, 0x13#8, 0x20#8, 0x21#8, 0x22#8, 0x23#8, 0x30#8,
    0x40#8, 0x41#8, 0x42#8, 0x43#8, 0x44#8, 0x45#8, 0x46#8, 0x47#8] := by
  cases i <;> simp [Instr.opcode]

/-- A row looks only at the fields its command uses (30_encoding.md R56). -/
theorem decodeRow_congr (opc : Byte) (a a' b b' v v' : Nat)
    (ha : opc ∈ [0x11#8, 0x12#8, 0x22#8, 0x40#8] → a = a')
    (hb : opc ∈ [0x10#8, 0x11#8, 0x20#8, 0x21#8, 0x40#8] → b = b')
    (hv : opc ∈ [0x12#8, 0x22#8] → v = v') : decodeRow opc a b v = decodeRow opc a' b' v' := by
  by_cases hopc : ∃ i : Instr, i.opcode = opc
  · obtain ⟨i, rfl⟩ := hopc
    cases i with
    | dac8SetAllGain _ | dac2SetAllGain _ | dac2SetSingleGain _ => rw [hb (by simp [Instr.opcode])]; rfl
    | dac8SetSingleGain _ _ | tmpRead _ _ => rw [ha (by simp [Instr.opcode]), hb (by simp [Instr.opcode])]; rfl
    | dac8OutputVoltDc _ _ | dac2OutputVoltDc _ _ =>
      rw [ha (by simp [Instr.opcode]), hv (by simp [Instr.opcode])]; rfl
    | dac8OutputReset | dac2OutputReset | adcRead | tmpReadObjC | tmpReadObjF | tmpReadAmbC | tmpReadAmbF
    | tmpGetObj | tmpReadStart | tmpReadStop => rfl
  · rw [not_exists] at hopc
    rw [decodeRow_of_no_opcode opc a b v hopc, decodeRow_of_no_opcode opc a' b' v' hopc]

/-! #### Encoding and decoding (30_encoding.md R50, R53, R57) -/

theorem fitsByte_iff (n : Nat) : fitsByte n = true ↔ n < 256 := decide_eq_true_iff

theorem fitsVolt_iff (n : Nat) : fitsVolt n = true ↔ n < 2 ^ 32 := decide_eq_true_iff

/-- A command is well formed exactly when what it puts in each field fits the field. -/
theorem wellFormed_iff (i : Instr) :
    i.wellFormed = true ↔ i.operandA < 256 ∧ i.operandB < 256 ∧ i.operandV < 2 ^ 32 := by
  cases i <;> simp [Instr.wellFormed, Instr.operandA, Instr.operandB, Instr.operandV, fitsByte_iff, fitsVolt_iff]

/-- Settles O1: no operand is cut where it fits its field, and the operands in their fields select the command. -/
theorem encodedCommandDecodesToItself : Obligations.EncodedCommandDecodesToItself := by
  intro i hwf
  obtain ⟨ha, hb, hv⟩ := (wellFormed_iff i).mp hwf
  have hA : (BitVec.ofNat 8 i.operandA).toNat = i.operandA := Nat.mod_eq_of_lt ha
  have hB : (BitVec.ofNat 8 i.operandB).toNat = i.operandB := Nat.mod_eq_of_lt hb
  have hV : (BitVec.ofNat 32 i.operandV).toNat = i.operandV := Nat.mod_eq_of_lt hv
  calc decode (encode i)
    _ = decodeRow i.opcode i.operandA i.operandB i.operandV := by
      rw [encode, commandWord, decode_append, if_pos rfl, hA, hB, hV]
    _ = .ok i := decodeRow_operands i

/-- Settles O5: each word is the encoding of the command beside it. -/
theorem writtenWordsDecode : Obligations.WrittenWordsDecode :=
  ⟨encodedCommandDecodesToItself (.dac8SetSingleGain 1 2) rfl,
    encodedCommandDecodesToItself (.dac8OutputVoltDc 3 163840000) rfl,
    encodedCommandDecodesToItself (.dac2SetAllGain 1) rfl, encodedCommandDecodesToItself .adcRead rfl,
    encodedCommandDecodesToItself (.tmpRead 14 1) rfl⟩

/-- Settles O2: the fields of a joined word are its parts, so each clause is a row of `decodeRow`. -/
theorem decodeFollowsOpcodeMap : Obligations.DecodeFollowsOpcodeMap := by
  intro opc a b z v
  rw [decode_append]
  refine ⟨fun hz => if_neg hz, fun hz => ?_⟩
  rw [if_pos hz]
  refine ⟨?_, ?_, ?_, ?_, ?_, ?_, ?_, ?_, ?_, ?_, ?_, ?_, ?_, ?_, ?_, ?_, ?_, fun hopc => ?unknown⟩
  case unknown => exact decodeRow_of_no_opcode opc _ _ _ fun i hi => hopc (hi ▸ opcode_mem i)
  all_goals
    rintro rfl
    rfl

/-- A word is its five fields joined (30_encoding.md R50). -/
theorem append_fields (w : CommandWord) : fieldOpc w ++ fieldA w ++ fieldB w ++ fieldZ w ++ fieldV w = w := by
  rw [fieldOpc, fieldA, fieldB, fieldZ, fieldV,
    BitVec.extractLsb'_append_extractLsb'_eq_extractLsb' (show 56 = 48 + 8 from rfl),
    BitVec.extractLsb'_append_extractLsb'_eq_extractLsb' (show 48 = 40 + 8 from rfl),
    BitVec.extractLsb'_append_extractLsb'_eq_extractLsb' (show 40 = 32 + 8 from rfl),
    BitVec.extractLsb'_append_extractLsb'_eq_extractLsb' (show 32 = 0 + 32 from rfl)]
  exact BitVec.extractLsb'_eq_self

/-- The mask of 30_encoding.md R52 keeps OPC and Z and clears the other fields. -/
theorem masked_eq_append (w : CommandWord) :
    w &&& 0xFF0000FF00000000#64 = fieldOpc w ++ 0#8 ++ 0#8 ++ fieldZ w ++ 0#32 := by
  have hmask : 0xFF0000FF00000000#64 = BitVec.allOnes 8 ++ 0#8 ++ 0#8 ++ BitVec.allOnes 8 ++ 0#32 := rfl
  calc w &&& 0xFF0000FF00000000#64
    _ = (fieldOpc w ++ fieldA w ++ fieldB w ++ fieldZ w ++ fieldV w) &&&
        (BitVec.allOnes 8 ++ 0#8 ++ 0#8 ++ BitVec.allOnes 8 ++ 0#32) := by rw [append_fields, hmask]
    _ = fieldOpc w ++ 0#8 ++ 0#8 ++ fieldZ w ++ 0#32 := by
      repeat rw [BitVec.and_append]
      simp only [BitVec.and_allOnes, BitVec.and_zero]

/-- The match value of a row, field by field (30_encoding.md R52). -/
theorem matchValue_eq_append (opc : Byte) : opc ++ 0#56 = opc ++ 0#8 ++ 0#8 ++ 0#8 ++ 0#32 := by
  apply BitVec.eq_of_toNat_eq
  simp only [BitVec.toNat_append, BitVec.toNat_ofNat, Nat.zero_mod, Nat.or_zero, ← Nat.shiftLeft_add]

/-- A masked word is the match value of a row exactly when OPC is the row's and Z is zero. -/
theorem masked_eq_matchValue_iff (w : CommandWord) (opc : Byte) :
    w &&& 0xFF0000FF00000000#64 = opc ++ 0#56 ↔ fieldOpc w = opc ∧ fieldZ w = 0#8 := by
  rw [masked_eq_append, matchValue_eq_append]
  constructor
  · intro h
    obtain ⟨wopc, -, -, wz, -⟩ := fields_append (fieldOpc w) 0#8 0#8 (fieldZ w) 0#32
    obtain ⟨mopc, -, -, mz, -⟩ := fields_append opc 0#8 0#8 0#8 0#32
    rw [h] at wopc wz
    exact ⟨wopc.symm.trans mopc, wz.symm.trans mz⟩
  · rintro ⟨hopc, hz⟩
    rw [hopc, hz]

/-- Settles O3: the mask keeps OPC and Z, and these two fields alone decide whether a word is a command and of which
row. -/
theorem maskedWordSelectsRow : Obligations.MaskedWordSelectsRow := by
  intro w
  constructor
  · intro i h
    obtain ⟨hz, hrow⟩ := (decode_eq_ok_iff w i).mp h
    have hopc := opcode_of_decodeRow_ok _ _ _ _ i hrow
    exact ⟨decode_wellFormed w i h, (masked_eq_matchValue_iff w _).mpr ⟨hopc.symm, hz⟩⟩
  · intro i h
    obtain ⟨hopc, hz⟩ := (masked_eq_matchValue_iff w _).mp h
    obtain ⟨j, hrow, hj⟩ := decodeRow_opcode i (fieldA w).toNat (fieldB w).toNat (fieldV w).toNat
    exact ⟨j, (decode_eq_ok_iff w j).mpr ⟨hz, hopc ▸ hrow⟩, hj⟩

/-- Settles O4: a word is run as what it decodes to, and the two words decode alike. -/
theorem unusedFieldsChangeNothing : Obligations.UnusedFieldsChangeNothing := by
  intro opc a a' b b' v v' s ha hb hv
  have hdecode : decode (opc ++ a ++ b ++ 0#8 ++ v) = decode (opc ++ a' ++ b' ++ 0#8 ++ v') := by
    rw [decode_append, decode_append, if_pos rfl, if_pos rfl]
    exact decodeRow_congr opc _ _ _ _ _ _ (fun h => congrArg BitVec.toNat (ha h))
      (fun h => congrArg BitVec.toNat (hb h)) (fun h => congrArg BitVec.toNat (hv h))
  rw [Machine.runWord, Machine.runWord, hdecode]

end Sys2Proof

namespace Sys2Proof.Machine

/-! #### The assembler (30_encoding.md R57; log 14) -/

/-- A written form that stands for a command is assembled exactly when the command is well formed. -/
theorem assemble_of_toInstr {c : AsmCommand} (i : Instr) {fits : Prop} [Decidable fits]
    (h : c.toInstr? = some i) (hfits : i.wellFormed = true ↔ fits) :
    assemble c = if fits then some (encode i) else none := by
  rw [assemble, h]
  exact if_congr hfits rfl rfl

/-- A written form whose command has no operand is always assembled. -/
theorem assemble_of_wellFormed {c : AsmCommand} (i : Instr) (h : c.toInstr? = some i) (hwf : i.wellFormed = true) :
    assemble c = some (encode i) := by
  rw [assemble_of_toInstr i h Iff.rfl, if_pos hwf]

theorem assemble_of_no_instr {c : AsmCommand} (h : c.toInstr? = none) : assemble c = none := by
  rw [assemble, h]

/-- What is assembled is the encoding of the well-formed command that was written. -/
theorem assemble_eq_some {c : AsmCommand} {w : CommandWord} (h : assemble c = some w) :
    ∃ i, c.toInstr? = some i ∧ i.wellFormed = true ∧ encode i = w := by
  cases hi : c.toInstr? with
  | none => simp [assemble_of_no_instr hi] at h
  | some i =>
    rw [assemble_of_toInstr i hi Iff.rfl, Option.ite_none_right_eq_some, Option.some_inj] at h
    exact ⟨i, rfl, h⟩

/-- A voltage on the grid has its raw value, and one off the grid has none. -/
theorem toRaw_eq (d : Decimal) :
    d.toRaw? = if 10 ^ d.places ∣ d.digits * 65536 then some (d.digits * 65536 / 10 ^ d.places) else none :=
  if_congr Nat.dvd_iff_mod_eq_zero.symm rfl rfl

/-- A written form with a channel and a voltage is assembled when the channel fits, the voltage is on the grid and its
raw value fits. -/
theorem assemble_of_volt {c : AsmCommand} {channel digits places : Nat} (command : Nat → Instr)
    (hc : c.toInstr? = (Decimal.toRaw? ⟨digits, places⟩).map command)
    (hfits : ∀ volt, (command volt).wellFormed = (fitsByte channel && fitsVolt volt)) :
    assemble c =
      if channel < 256 ∧ 10 ^ places ∣ digits * 65536 ∧ digits * 65536 / 10 ^ places < 2 ^ 32 then
        some (encode (command (digits * 65536 / 10 ^ places)))
      else none := by
  rw [toRaw_eq] at hc
  by_cases hgrid : 10 ^ places ∣ digits * 65536
  · rw [if_pos hgrid] at hc
    refine assemble_of_toInstr _ hc ?_
    rw [hfits, Bool.and_eq_true, fitsByte_iff, fitsVolt_iff, and_iff_right hgrid]
  · rw [if_neg hgrid] at hc
    rw [assemble_of_no_instr hc, if_neg fun ⟨_, hdvd, _⟩ => hgrid hdvd]

/-- A register type's code always fits, so the address decides. -/
theorem tmpRead_wellFormed_iff (registerAddress : Nat) (type : RegType) :
    (Instr.tmpRead registerAddress (regTypeCode type)).wellFormed = true ↔ registerAddress < 256 := by
  have htype : fitsByte (regTypeCode type) = true := by cases type <;> rfl
  rw [Instr.wellFormed, htype, Bool.and_true, fitsByte_iff]

theorem dac8SetSingleGain_wellFormed_iff (channel gain : Nat) :
    (Instr.dac8SetSingleGain channel gain).wellFormed = true ↔ channel < 256 ∧ gain < 256 := by
  rw [Instr.wellFormed, Bool.and_eq_true, fitsByte_iff, fitsByte_iff]

/-- Settles O6: each form assembles to the encoding of its command when the operands fit, and an encoded command decodes
to itself. -/
theorem assembledWordIsTheCommandWritten : Obligations.AssembledWordIsTheCommandWritten := by
  refine ⟨fun gain => ⟨?_, ?_, ?_⟩, fun channel gain => ?_, fun channel digits places => ⟨?_, ?_⟩,
    fun registerAddress => ⟨?_, ?_⟩, ?_, ?_, ?_, ?_, ?_, ?_, ?_, ?_, ?_, ?_, fun c w h => ?_⟩
  · exact assemble_of_toInstr (.dac8SetAllGain gain) rfl (fitsByte_iff gain)
  · exact assemble_of_toInstr (.dac2SetAllGain gain) rfl (fitsByte_iff gain)
  · exact assemble_of_toInstr (.dac2SetSingleGain gain) rfl (fitsByte_iff gain)
  · exact assemble_of_toInstr (.dac8SetSingleGain channel gain) rfl (dac8SetSingleGain_wellFormed_iff channel gain)
  · exact assemble_of_volt (.dac8OutputVoltDc channel) rfl fun _ => rfl
  · exact assemble_of_volt (.dac2OutputVoltDc channel) rfl fun _ => rfl
  · exact assemble_of_toInstr (.tmpRead registerAddress 0) rfl (tmpRead_wellFormed_iff registerAddress .ram)
  · exact assemble_of_toInstr (.tmpRead registerAddress 1) rfl (tmpRead_wellFormed_iff registerAddress .eeprom)
  · exact assemble_of_wellFormed .dac8OutputReset rfl rfl
  · exact assemble_of_wellFormed .dac2OutputReset rfl rfl
  · exact assemble_of_wellFormed .adcRead rfl rfl
  · exact assemble_of_wellFormed .tmpReadObjC rfl rfl
  · exact assemble_of_wellFormed .tmpReadObjF rfl rfl
  · exact assemble_of_wellFormed .tmpReadAmbC rfl rfl
  · exact assemble_of_wellFormed .tmpReadAmbF rfl rfl
  · exact assemble_of_wellFormed .tmpGetObj rfl rfl
  · exact assemble_of_wellFormed .tmpReadStart rfl rfl
  · exact assemble_of_wellFormed .tmpReadStop rfl rfl
  · obtain ⟨i, hi, hwf, rfl⟩ := assemble_eq_some h
    exact ⟨i, hi, encodedCommandDecodesToItself i hwf⟩

/-! #### The one response of a command word (30_encoding.md R54; 60_exceptions.md R138; 70_reset_and_hazards.md R165) -/

theorem runWord_of_decode_error (w : CommandWord) (e : DecodeError) (s : State) (h : decode w = .error e) :
    runWord w s = .next (s.abort .illegal) := by
  simp [runWord, h]

/-- Settles O45: an illegal word is answered at once, and a command is answered or is one that the transport never
answers. -/
theorem everyWordGivesOneResponse : Obligations.EveryWordGivesOneResponse := by
  intro s w rest hready hinputs
  rw [step_command s w rest hready hinputs]
  cases hdecode : decode w with
  | error e => exact ⟨_, runWord_of_decode_error w e _ hdecode, rfl, rfl, .inl ⟨hready, _, rfl⟩⟩
  | ok i =>
    obtain ⟨u, hu⟩ := everyCommandTakesANextState i { s with inputs := rest }
    obtain ⟨hcfg, hin, -⟩ := onlyTheNamedCommandsWriteARegister i _ u hu
    refine ⟨u, (runWord_of_decode_ok w i _ hdecode).trans hu, hin, hcfg, ?_⟩
    rcases exec_responds_or_silent i _ u hu with ⟨hflight, word, hword⟩ | ⟨hsilent, t, hshape, hflight, hresponses⟩
    · obtain ⟨hwf, hnone⟩ := hready
      exact .inl ⟨⟨hcfg ▸ hwf, hflight.trans hnone⟩, word, hword⟩
    · exact .inr ⟨i, t, rfl, hsilent, hshape, hflight, hresponses⟩

/-! #### The form of a response word (30_encoding.md R54; 60_exceptions.md R130) -/

/-- The three fields of a response word are what it was made from. -/
theorem responseWord_fields (st : Status) (v : BitVec 48) :
    responseStatus (responseWord st v) = st.code ∧ (responseWord st v).extractLsb' 48 8 = 0#8 ∧
      responseValue (responseWord st v) = v := by
  refine ⟨?_, ?_, BitVec.extractLsb'_append_eq_right⟩
  · exact (BitVec.extractLsb'_append_eq_of_le (by decide)).trans BitVec.extractLsb'_append_eq_left
  · exact (BitVec.extractLsb'_append_eq_of_le (by decide)).trans BitVec.extractLsb'_append_eq_right

theorem code_le_seven (st : Status) : st.code.toNat ≤ 7 := by
  cases st <;> decide

theorem code_eq_zero_iff (st : Status) : st.code = 0#8 ↔ st = .ok := by
  cases st <;> decide

/-- A response word made with VALUE 0, or with the status OK, has the form of R54. -/
theorem responseLegal_responseWord (st : Status) (v : BitVec 48) (hv : st ≠ .ok → v = 0#48) :
    responseLegal (responseWord st v) := by
  obtain ⟨hstatus, hzero, hvalue⟩ := responseWord_fields st v
  refine ⟨hstatus ▸ code_le_seven st, hzero, fun hne => ?_⟩
  rw [hstatus, ne_eq, code_eq_zero_iff] at hne
  rw [hvalue, hv hne]

theorem deliver_keeps_responsesLegal (s : State) (word : ResponseWord) (hs : s.ResponsesLegal)
    (h : responseLegal word) : (s.deliver word).ResponsesLegal :=
  List.forall_mem_append.mpr ⟨hs, List.forall_mem_singleton.mpr h⟩

theorem respond_keeps_responsesLegal (s : State) (v : BitVec 48) (hs : s.ResponsesLegal) :
    (s.respond v).ResponsesLegal :=
  deliver_keeps_responsesLegal s _ hs (responseLegal_responseWord .ok v fun h => absurd rfl h)

theorem abort_keeps_responsesLegal (s : State) (st : Status) (hs : s.ResponsesLegal) : (s.abort st).ResponsesLegal :=
  deliver_keeps_responsesLegal (s.setErr st.errBit) _ hs (responseLegal_responseWord st 0#48 fun _ => rfl)

/-- A gain write delivers no response. -/
theorem GainWritten.keeps_responsesLegal {i : Instr} {s pre : State} (h : GainWritten i s pre)
    (hs : s.ResponsesLegal) : pre.ResponsesLegal := by
  rcases h with rfl | ⟨g, -, rfl, -⟩ | ⟨g, -, rfl, -⟩ <;> exact hs

/-- However a bus command ends, what it delivers is OK with a value, E_TRANSPORT with none, or nothing. -/
theorem BusEnded.keeps_responsesLegal {i : Instr} {t : Transaction} {n : Nat} {pre u : State}
    (h : BusEnded i t n pre u) (hp : pre.ResponsesLegal) : u.ResponsesLegal := by
  rcases h with ⟨v, rfl⟩ | ⟨v, -, rfl⟩ | ⟨-, rfl⟩ | ⟨-, -, rfl⟩
  · exact respond_keeps_responsesLegal (pre.issued t n) v hp
  · exact respond_keeps_responsesLegal ((pre.issued t n).setErr bitSent) v hp
  · exact abort_keeps_responsesLegal (pre.issued t n) .transport hp
  · exact hp

theorem exec_keeps_responsesLegal (i : Instr) (s u : State) (hs : s.ResponsesLegal) (h : exec i s = .next u) :
    u.ResponsesLegal := by
  cases exec_inversion i s u h with
  | aborted st _ => exact abort_keeps_responsesLegal s st hs
  | flag b v _ => exact respond_keeps_responsesLegal (s.withPollActive b) v hs
  | bus t n pre u _ _ _ hp hu => exact hu.keeps_responsesLegal (hp.keeps_responsesLegal hs)

/-- Settles O55: a reset empties the responses, an idle step leaves them, and an illegal word and a command deliver
legal ones only. -/
theorem stepKeepsResponsesLegal : Obligations.StepKeepsResponsesLegal := by
  intro s u hs h
  rcases step_inversion s u h with ⟨c, rest, -, -, rfl⟩ | ⟨-, -, rfl | rfl | ⟨i, hi⟩⟩
  · exact List.forall_mem_nil _
  · exact hs
  · exact abort_keeps_responsesLegal s.takeInput .illegal hs
  · exact exec_keeps_responsesLegal i s.takeInput u hs hi

end Sys2Proof.Machine
end

/-! ### 40_codec_functions.md: the codes of the DACs, the line of the ADC, and the temperature functions -/

section
namespace Sys2Proof.Machine

/-! #### A voltage scaled to a code: floor(Vr * m * g / Rr) (40_codec_functions.md R70, R72) -/

theorem scaled_at_reference (m g : Nat) {rr : Nat} (hrr : 0 < rr) : rr * m * g / rr = m * g := by
  rw [Nat.mul_assoc, Nat.mul_div_cancel_left _ hrr]

theorem scaled_zero (m g rr : Nat) : 0 * m * g / rr = 0 := by
  rw [Nat.zero_mul, Nat.zero_mul, Nat.zero_div]

theorem scaled_mono (m g rr : Nat) {vr vr' : Nat} (h : vr ≤ vr') : vr * m * g / rr ≤ vr' * m * g / rr :=
  Nat.div_le_div_right (Nat.mul_le_mul_right g (Nat.mul_le_mul_right m h))

theorem scaled_le (m g : Nat) {vr rr : Nat} (hrr : 0 < rr) (h : vr ≤ rr) : vr * m * g / rr ≤ m * g :=
  (scaled_mono m g rr h).trans_eq (scaled_at_reference m g hrr)

/-! #### DACCODE8 (40_codec_functions.md R70, R71) -/

/-- The clamp of R70: the one value 4096 becomes 4095. -/
def clampCode (q : Nat) : Nat := if q = 4096 then 4095 else q

theorem dacCode8_eq_clampCode (vr rr g : Nat) : dacCode8 vr rr g = clampCode (vr * 4096 * g / rr) := rfl

theorem clampCode_4096 : clampCode 4096 = 4095 := rfl

theorem clampCode_of_ne {q : Nat} (h : q ≠ 4096) : clampCode q = q := if_neg h

theorem clampCode_ne (q : Nat) : clampCode q ≠ 4096 := by
  unfold clampCode
  split <;> omega

theorem clampCode_le (q : Nat) : clampCode q ≤ q := by
  unfold clampCode
  split <;> omega

theorem clampCode_le_4095 {q : Nat} (h : q ≤ 4096) : clampCode q ≤ 4095 := by
  have := clampCode_ne q
  have := clampCode_le q
  omega

/-- The clamp moves 4096 down by one only, so it keeps the order. -/
theorem clampCode_mono {q q' : Nat} (h : q ≤ q') : clampCode q ≤ clampCode q' := by
  by_cases hq : q' = 4096
  · subst hq
    exact clampCode_le_4095 h
  · rw [clampCode_of_ne hq]
    exact (clampCode_le q).trans h

/-- A quotient at the reference alone is the full scale of gain 1. -/
theorem dacCode8_quotient_eq_iff {vr rr : Nat} (hrr : 0 < rr) (hv : vr ≤ rr) :
    vr * 4096 * 1 / rr = 4096 ↔ vr = rr := by
  constructor
  · intro h
    have : 4096 * rr ≤ vr * 4096 * 1 := (Nat.le_div_iff_mul_le hrr).mp h.ge
    omega
  · rintro rfl
    exact scaled_at_reference 4096 1 hrr

/-- The gain-2 quotient is at most 4096 exactly below the end of the clamped band. -/
theorem dacCode8_quotient_le_iff {vr rr : Nat} (hrr : 0 < rr) :
    vr * 4096 * 2 / rr ≤ 4096 ↔ vr * 2 * 4096 < rr * 4096 + rr := by
  rw [← Nat.lt_succ_iff, Nat.div_lt_iff_lt_mul hrr]
  omega

/-- The gain-2 quotient reaches 4096 from half of the reference on. -/
theorem le_dacCode8_quotient_iff {vr rr : Nat} (hrr : 0 < rr) : 4096 ≤ vr * 4096 * 2 / rr ↔ rr ≤ 2 * vr := by
  rw [Nat.le_div_iff_mul_le hrr]
  omega

theorem dacCode8_zero (rr g : Nat) : dacCode8 0 rr g = 0 := by
  rw [dacCode8_eq_clampCode, scaled_zero, clampCode_of_ne (by decide)]

theorem dacCode8_mono (rr g : Nat) {vr vr' : Nat} (h : vr ≤ vr') : dacCode8 vr rr g ≤ dacCode8 vr' rr g :=
  clampCode_mono (scaled_mono 4096 g rr h)

theorem dacCode8_le {vr rr g : Nat} (hrr : 0 < rr) (hv : vr ≤ rr) (hg : g = 1 ∨ g = 2) : dacCode8 vr rr g ≤ 8192 := by
  have hclamp : dacCode8 vr rr g ≤ vr * 4096 * g / rr := clampCode_le _
  have hscaled : vr * 4096 * g / rr ≤ 4096 * g := scaled_le 4096 g hrr hv
  omega

/-- Settles O7: the quotient's bounds, and the clamp, which moves 4096 only. -/
theorem twelveBitCodeBounds : Obligations.TwelveBitCodeBounds := by
  intro vr rr hrr hv
  have hquot1 := scaled_le 4096 1 hrr hv
  have hquot2 := scaled_le 4096 2 hrr hv
  have hband := dacCode8_quotient_le_iff (vr := vr) hrr
  refine ⟨⟨clampCode_le_4095 hquot1, dacCode8_quotient_eq_iff hrr hv, fun heq => ?reference⟩,
    ⟨hquot2, fun hlt => clampCode_le_4095 (hband.mpr hlt), fun hhalf hlt => ?band, fun hge => ?above,
      fun heq => ?reference2⟩,
    fun g hg => ⟨clampCode_ne _, dacCode8_le hrr hv hg, (dacCode8_le hrr hv hg).trans_lt (by decide), dacCode8_zero rr g,
      fun vr' hle _ => dacCode8_mono rr g hle⟩⟩
  case reference => rw [dacCode8_eq_clampCode, (dacCode8_quotient_eq_iff hrr hv).mpr heq, clampCode_4096]
  case band =>
    have hq : vr * 4096 * 2 / rr = 4096 :=
      Nat.le_antisymm (hband.mpr hlt) ((le_dacCode8_quotient_iff hrr).mpr hhalf)
    rw [dacCode8_eq_clampCode, hq]
    exact ⟨rfl, clampCode_4096⟩
  case above =>
    have hq : 4096 < vr * 4096 * 2 / rr := not_le.mp fun h => hge.not_gt (hband.mp h)
    rw [dacCode8_eq_clampCode, clampCode_of_ne hq.ne']
    exact ⟨hq, hquot2⟩
  case reference2 => rw [heq, dacCode8_eq_clampCode, scaled_at_reference 4096 2 hrr, clampCode_of_ne (by decide)]

/-! #### DACCODE2 (40_codec_functions.md R72, R73) -/

theorem dacCode2_at_reference (g : Nat) {rr : Nat} (hrr : 0 < rr) : dacCode2 rr rr g = 255 * g :=
  scaled_at_reference 255 g hrr

theorem dacCode2_le (g : Nat) {vr rr : Nat} (hrr : 0 < rr) (hv : vr ≤ rr) : dacCode2 vr rr g ≤ 255 * g :=
  scaled_le 255 g hrr hv

theorem dacCode2_zero (rr g : Nat) : dacCode2 0 rr g = 0 := scaled_zero 255 g rr

theorem dacCode2_mono (rr g : Nat) {vr vr' : Nat} (h : vr ≤ vr') : dacCode2 vr rr g ≤ dacCode2 vr' rr g :=
  scaled_mono 255 g rr h

/-- With gain 2 the code needs a ninth bit from 256 / 510 of the reference on. -/
theorem lt_dacCode2_iff {vr rr : Nat} (hrr : 0 < rr) : 255 < dacCode2 vr rr 2 ↔ 256 * rr ≤ vr * 510 := by
  rw [dacCode2, ← Nat.succ_le_iff, Nat.le_div_iff_mul_le hrr, Nat.mul_assoc]

/-- Settles O8: the quotient is not clamped, so its bounds are those of the code. -/
theorem eightBitCodeBounds : Obligations.EightBitCodeBounds := by
  intro vr rr hrr hv
  refine ⟨dacCode2_le 1 hrr hv, fun heq => heq ▸ dacCode2_at_reference 1 (heq ▸ hrr), dacCode2_le 2 hrr hv,
    lt_dacCode2_iff hrr, fun g hg => ⟨?_, dacCode2_zero rr g, fun vr' hle _ => dacCode2_mono rr g hle⟩⟩
  have := dacCode2_le g hrr hv
  omega

/-! #### ADCVOLT (40_codec_functions.md R79, R80) -/

/-- ADCVOLT is the floor of the exact quotient. -/
theorem adcVolt_floor (code rr : Nat) :
    4095 * adcVolt code rr ≤ code * rr ∧ code * rr < 4095 * (adcVolt code rr + 1) := by
  unfold adcVolt
  omega

theorem adcVolt_zero (rr : Nat) : adcVolt 0 rr = 0 := by
  rw [adcVolt, Nat.zero_mul, Nat.zero_div]

theorem adcVolt_full_scale (rr : Nat) : adcVolt 4095 rr = rr := Nat.mul_div_cancel_left rr (by decide)

theorem adcVolt_mono (rr : Nat) {code code' : Nat} (h : code ≤ code') : adcVolt code rr ≤ adcVolt code' rr :=
  Nat.div_le_div_right (Nat.mul_le_mul_right rr h)

/-- One code more adds `rr` to the product, hence at least one to the quotient when `rr` is at least 4095. -/
theorem adcVolt_strictMono {rr code code' : Nat} (hrr : 4095 ≤ rr) (h : code < code') :
    adcVolt code rr < adcVolt code' rr := by
  have hnext : adcVolt code rr < adcVolt (code + 1) rr := by
    obtain ⟨hle, -⟩ := adcVolt_floor code rr
    obtain ⟨-, hlt⟩ := adcVolt_floor (code + 1) rr
    rw [Nat.succ_mul] at hlt
    omega
  exact hnext.trans_le (adcVolt_mono rr h)

theorem adcVolt_one_of_lt {rr : Nat} (h : rr < 4095) : adcVolt 1 rr = 0 := by
  rw [adcVolt, Nat.one_mul, Nat.div_eq_of_lt h]

theorem adcVolt_lt {code rr : Nat} (hcode : code ≤ 65535) (hrr : rr < 2 ^ 32) : adcVolt code rr < 2 ^ 37 := by
  have hmost : adcVolt code rr ≤ adcVolt 65535 rr := adcVolt_mono rr hcode
  obtain ⟨hfloor, -⟩ := adcVolt_floor 65535 rr
  omega

/-- Settles O9: the floor of a line through the two points. -/
theorem adcLineIsMonotoneThroughItsTwoPoints : Obligations.AdcLineIsMonotoneThroughItsTwoPoints := by
  intro code rr
  refine ⟨adcVolt_zero rr, adcVolt_full_scale rr, fun _ h => adcVolt_mono rr h, fun hrr _ h => adcVolt_strictMono hrr h,
    fun hrr => ⟨0, (adcVolt_zero rr).trans (adcVolt_one_of_lt hrr).symm⟩, fun hrr => ?_,
    fun h => (adcVolt_mono rr h).trans_eq (adcVolt_full_scale rr),
    fun hcode hrr => ⟨adcVolt_mono rr hcode, adcVolt_lt hcode hrr⟩, adcVolt_floor code rr⟩
  rw [adcVolt, hrr, Nat.mul_zero, Nat.zero_div]

/-! #### The two bytes of a code (40_codec_functions.md R74) -/

theorem hi_toNat (c : Nat) : (hi c).toNat = c / 256 % 256 := by
  rw [hi_eq, BitVec.toNat_ofNat]

theorem lo_toNat (c : Nat) : (lo c).toNat = c % 256 := by
  rw [lo_eq, BitVec.toNat_ofNat, Nat.mod_mod]

/-- Settles O10: the high byte counts 256s and the low byte is the remainder. -/
theorem twoBytesHoldTheCode : Obligations.TwoBytesHoldTheCode := by
  intro c
  constructor
  · apply BitVec.eq_of_toNat_eq
    rw [BitVec.toNat_append, shift_or_byte, hi_toNat, lo_toNat, BitVec.toNat_ofNat]
    omega
  · intro hc
    rw [hi_toNat, lo_toNat]
    omega

/-! #### The gain bytes of the 8-channel DAC (40_codec_functions.md R75, R76) -/

/-- The base value of gain 1 is 0, which sets no bit. -/
theorem gainCmd8Single_one (opc : Byte) (ch : Nat) : gainCmd8Single opc ch 1 = opc := by
  rw [gainCmd8Single, Nat.sub_self, Nat.zero_shiftLeft]
  exact BitVec.or_zero

/-- OR-ing two bytes over one opcode joins the bits they add to it. -/
theorem or_or_or_same (opc a b : Byte) : opc ||| a ||| (opc ||| b) = opc ||| (a ||| b) := by
  rw [BitVec.or_assoc, ← BitVec.or_assoc a, BitVec.or_comm a, BitVec.or_assoc opc, ← BitVec.or_assoc, BitVec.or_self]

/-- Settles O11: each single byte of gain 2 adds one bit to the opcode, and the four bits are 0x0F. -/
theorem singleGainBytesMakeTheAllGainByte : Obligations.SingleGainBytesMakeTheAllGainByte := by
  intro opc _
  have h0 : gainCmd8Single opc 0 2 = opc ||| 0x08#8 := rfl
  have h1 : gainCmd8Single opc 1 2 = opc ||| 0x04#8 := rfl
  have h2 : gainCmd8Single opc 2 2 = opc ||| 0x02#8 := rfl
  have h3 : gainCmd8Single opc 3 2 = opc ||| 0x01#8 := rfl
  refine ⟨rfl, rfl, h0, h1, h2, h3, fun ch _ => gainCmd8Single_one opc ch, ?_⟩
  rw [h0, h1, h2, h3, or_or_or_same, or_or_or_same, or_or_or_same]
  rfl

/-! #### CELSIUS (40_codec_functions.md R81) -/

/-- Every temperature is ten times an odd number. -/
theorem celsius_eq_ten_mul_odd (raw : Nat) : celsius raw = 10 * (2 * ((raw : Int) - 13658) + 1) := by
  unfold celsius
  ring

theorem celsius_zero : celsius 0 = -273150 := rfl

theorem celsius_ge (raw : Nat) : -273150 ≤ celsius raw := by
  unfold celsius
  omega

theorem celsius_le {raw : Nat} (h : raw < 65536) : celsius raw ≤ 1037550 := by
  unfold celsius
  omega

/-- The excluded values are ten times an even number. -/
theorem celsius_not_mem (raw : Nat) : celsius raw ∉ [0, 40000, 60000, 82000, 100000] := by
  rw [celsius_eq_ten_mul_odd]
  simp only [List.mem_cons, List.not_mem_nil, or_false]
  omega

/-- Settles O14: the line at a 16-bit value, which is all that two bytes can make. -/
theorem celsiusLine : Obligations.CelsiusLine := by
  intro low high
  refine ⟨raw16_eq low high, ?_, celsius_ge _, celsius_le (raw16_lt low high), ⟨_, celsius_eq_ten_mul_odd _⟩,
    celsius_not_mem _⟩
  rw [raw16_eq, celsius]
  push_cast
  rfl

/-! #### CORRECT (40_codec_functions.md R82) -/

theorem correct_of_gt_82000 {t : Int} (h : 82000 < t) : correct t = t - 6000 := if_pos h

theorem correct_of_gt_60000 {t : Int} (h : 60000 < t) (h' : t ≤ 82000) : correct t = t - 4500 := by
  rw [correct, if_neg h'.not_gt, if_pos h]

theorem correct_of_gt_40000 {t : Int} (h : 40000 < t) (h' : t ≤ 60000) : correct t = t - 2000 := by
  rw [correct, if_neg (by omega), if_neg h'.not_gt, if_pos h]

theorem correct_of_le {t : Int} (h : t ≤ 40000) : correct t = t := by
  rw [correct, if_neg (by omega), if_neg (by omega), if_neg h.not_gt]

/-- No tier takes off more than 6000, and none adds. -/
theorem correct_bounds (t : Int) : t - 6000 ≤ correct t ∧ correct t ≤ t := by
  unfold correct
  split_ifs <;> omega

/-- Settles O15: the four branches, and the boundary values each in its branch. -/
theorem correctionTiers : Obligations.CorrectionTiers :=
  ⟨fun _ => ⟨correct_of_gt_82000, correct_of_gt_60000, correct_of_gt_40000, correct_of_le⟩,
    correct_of_gt_60000 (by decide) (by decide), correct_of_gt_82000 (by decide),
    correct_of_gt_40000 (by decide) (by decide), correct_of_le (by decide),
    correct_of_gt_40000 (by decide) (by decide), correct_of_le (by decide)⟩

/-! #### C2F and the sentinel (40_codec_functions.md R83, R84) -/

/-- C2F is 32000 above the floor of 9t/5. -/
theorem c2f_floor (t : Int) : 5 * (c2f t - 32000) ≤ 9 * t ∧ 9 * t < 5 * (c2f t - 32000) + 5 := by
  unfold c2f
  omega

theorem c2f_exact {t : Int} (h : t % 5 = 0) : 5 * (c2f t - 32000) = 9 * t := by
  unfold c2f
  omega

/-- On the read path the division by 5 is exact. -/
theorem c2f_celsius (raw : Nat) : c2f (celsius raw) = 36 * (raw : Int) - 459670 := by
  have hfive : celsius raw % 5 = 0 := by
    rw [celsius]
    omega
  have hexact := c2f_exact hfive
  rw [celsius] at hexact ⊢
  omega

theorem c2f_sentinel : c2f sentinel = -1766200 := rfl

/-- Settles O16: the floor, and the read path, on which it rounds nothing. -/
theorem fahrenheitLine : Obligations.FahrenheitLine := by
  refine ⟨fun t => ?_, c2f_celsius, rfl, rfl, c2f_sentinel⟩
  obtain ⟨hle, hlt⟩ := c2f_floor t
  exact ⟨hle, hlt, c2f_exact⟩

/-- Settles O17: both lines rise from raw 0, where they are above the sentinel's values. -/
theorem sentinelBelowEveryTemperature : Obligations.SentinelBelowEveryTemperature := by
  refine ⟨rfl, c2f_sentinel, correct_of_le (by decide), celsius_zero, c2f_celsius 0, fun raw => ?_⟩
  have hleast : celsius 0 ≤ celsius raw := celsius_ge raw
  have hleastF : c2f (celsius 0) ≤ c2f (celsius raw) := by
    rw [c2f_celsius, c2f_celsius]
    omega
  exact ⟨hleast, hleastF, lt_of_lt_of_le (by decide) hleast, lt_of_lt_of_le (by decide) hleastF⟩

/-! #### The 48-bit VALUE (40_codec_functions.md R86; 30_encoding.md R55) -/

/-- `sext_48` keeps every S32 value. -/
theorem sext48_toInt {t : Int} (h1 : -2147483648 ≤ t) (h2 : t < 2147483648) : (sext48 t).toInt = t := by
  rw [sext48_eq t h1 h2]
  exact BitVec.toInt_ofInt_eq_self (by decide) (by omega) (by omega)

theorem zext48_toNat {v : Nat} (h : v < 2 ^ 48) : (zext48 v).toNat = v := by
  rw [zext48, BitVec.toNat_ofNat, Nat.mod_eq_of_lt h]

/-- Settles O18: every temperature is an S32 value, and every voltage is below 2^37. -/
theorem valueFieldLosesNothing : Obligations.ValueFieldLosesNothing := by
  refine ⟨fun raw hraw => ?_, sext48_toInt (by decide) (by decide), sext48_toInt (by decide) (by decide),
    fun code rr hcode hrr => ?_⟩
  · have hge := celsius_ge raw
    have hle := celsius_le hraw
    have hf := c2f_celsius raw
    obtain ⟨hcorrectGe, hcorrectLe⟩ := correct_bounds (celsius raw)
    exact ⟨sext48_toInt (by omega) (by omega), sext48_toInt (by omega) (by omega),
      sext48_toInt (by omega) (by omega)⟩
  · exact zext48_toNat ((adcVolt_lt (Nat.le_of_lt_succ hcode) hrr).trans (by decide))

end Sys2Proof.Machine
end

/-! ### 41_dac8.md: the 8-channel DAC's commands, and the output reset of both DACs -/

section
namespace Sys2Proof

/-- Decoding a word made from its fields selects the row of its OPC (30_encoding.md R52, R53). -/
theorem decode_commandWord (opc a b : Byte) (v : BitVec 32) :
    decode (commandWord opc a b v) = decodeRow opc a.toNat b.toNat v.toNat := by
  rw [commandWord, decode_append, if_pos rfl]

end Sys2Proof

namespace Sys2Proof.Machine

/-! #### Ending a command (60_exceptions.md R131 to R133, R136) -/

theorem abort_eq_ended (s : State) (st : Status) : s.abort st = s.ended st.errBit (responseWord st 0#48) := rfl

/-- A command that violates a precondition aborts with the first violation and does nothing else. -/
theorem exec_of_violated {i : Instr} {s : State} {st : Status} (h : i.violated s.cfg = some st) :
    exec i s = .next (s.abort st) := by
  obtain ⟨u, hu⟩ := everyCommandTakesANextState i s
  cases exec_inversion i s u hu with
  | aborted st' h' =>
    obtain rfl : st = st' := Option.some_inj.mp (h.symm.trans h')
    exact hu
  | flag b v hi => rcases hi with ⟨rfl, -⟩ | ⟨rfl, -⟩ <;> cases h
  | bus t n pre u hv _ _ _ _ => cases h.symm.trans hv

theorem guarded_of_accepted {s : State} {checks : List (Option Status)} {body : State → State}
    (h : firstViolation checks = none) : s.guarded checks body = body s := by
  rw [State.guarded, h]

/-! #### The one write of a DAC command, by the transport's answer (60_exceptions.md R133) -/

theorem dacWrite_ok {s : State} (addr : Nat) (bytes : List Byte) (onOk : State → State)
    (h : s.replyAt 0 0 = .ok []) :
    s.dacWrite addr bytes onOk = (onOk (s.issued (busWrite addr bytes) 1)).deliver 0#64 := by
  rw [issued_one]
  exact exchange_ok s (busWrite addr bytes) _ _ [] h

theorem dacWrite_fail {s : State} (addr : Nat) (bytes : List Byte) (onOk : State → State)
    (h : s.replyAt 0 0 = .fail) :
    s.dacWrite addr bytes onOk = (s.issued (busWrite addr bytes) 1).ended 0x04#8 0x0700000000000000#64 := by
  rw [issued_one]
  exact exchange_fail s (busWrite addr bytes) _ _ h

/-- When the write succeeds, the gain is committed under either setting of the switch of D18. -/
theorem gainWrite_ok {s : State} (addr : Nat) (bytes : List Byte) (commit : State → State)
    (hreply : (commit s).replyAt 0 0 = s.replyAt 0 0)
    (hissued : ∀ t, commit (s.issued t 1) = (commit s).issued t 1) (h : s.replyAt 0 0 = .ok []) :
    s.gainWrite addr bytes commit = (commit (s.issued (busWrite addr bytes) 1)).deliver 0#64 := by
  by_cases hc : s.cfg.variants.gainCommitBeforeWrite = true
  · rw [gainWrite_commitFirst s _ _ _ hc, dacWrite_ok _ _ _ (hreply.trans h), hissued, id]
  · rw [gainWrite_commitOnOk s _ _ _ hc, dacWrite_ok _ _ _ h]

/-- When the write fails, the gain stays committed under the spec's default of the switch of D18. -/
theorem gainWrite_fail {s : State} (addr : Nat) (bytes : List Byte) (commit : State → State)
    (hreply : (commit s).replyAt 0 0 = s.replyAt 0 0) (hc : s.cfg.variants.gainCommitBeforeWrite = true)
    (h : s.replyAt 0 0 = .fail) :
    s.gainWrite addr bytes commit =
      ((commit s).issued (busWrite addr bytes) 1).ended 0x04#8 0x0700000000000000#64 := by
  rw [gainWrite_commitFirst s _ _ _ hc, dacWrite_fail _ _ _ (hreply.trans h)]

/-! #### DAC8.SETALLGAIN (41_dac8.md R90) -/

theorem violated_dac8SetAllGain_eq_none {gain : Nat} (c : Config) (h : gain = 1 ∨ gain = 2) :
    (Instr.dac8SetAllGain gain).violated c = none :=
  if_neg fun ⟨h1, h2⟩ => h.elim h1 h2

/-- With an accepted gain the command is the gain write of the all-channels byte. -/
theorem exec_dac8SetAllGain_of_accepted (s : State) {gain : Nat} (h : gain = 1 ∨ gain = 2) :
    exec (.dac8SetAllGain gain) s =
      .next (s.gainWrite s.cfg.dac8Addr [gainCmd8All s.cfg.dac8GainOpc gain] (State.withDac8Gain gain)) := by
  have hchecks : firstViolation [checkGain gain] = none :=
    (firstViolation_dac8SetAllGain gain s.cfg).trans (violated_dac8SetAllGain_eq_none s.cfg h)
  exact congrArg Host.Outcome.next (guarded_of_accepted hchecks)

/-- Settles O19: a bad gain is the one violation, and an accepted one makes the gain write. -/
theorem dac8SetAllGainRule : Obligations.Dac8SetAllGainRule := by
  refine ⟨fun a b v => decode_commandWord 0x10#8 a b v, fun s gain t ht => ?_⟩
  subst ht
  refine ⟨fun hbad => ?bad, fun hgain hok => ?ok, fun hgain hfail hc => ?fail⟩
  case bad => exact exec_of_violated (st := .gain) (if_pos hbad)
  case ok =>
    rw [exec_dac8SetAllGain_of_accepted s hgain, gainWrite_ok _ _ _ rfl (fun _ => rfl) hok]
    rfl
  case fail =>
    rw [exec_dac8SetAllGain_of_accepted s hgain, gainWrite_fail _ _ _ rfl hc hfail]
    rfl

/-! #### DAC8.SETSINGLEGAIN (41_dac8.md R91) -/

theorem gainCmd8Single_eq (opc : Byte) (ch g : Nat) :
    gainCmd8Single opc ch g = opc ||| BitVec.ofNat 8 ((g - 1) * 2 ^ (3 - ch)) := by
  rw [gainCmd8Single, Nat.shiftLeft_eq]

/-- The three checks in the order written, each with the status of its violation. -/
theorem violated_dac8SetSingleGain (channel gain : Nat) (c : Config) :
    (7 < channel → (Instr.dac8SetSingleGain channel gain).violated c = some .channel) ∧
    (channel ≤ 7 → gain ≠ 1 ∧ gain ≠ 2 → (Instr.dac8SetSingleGain channel gain).violated c = some .gain) ∧
    (4 ≤ channel → channel ≤ 7 → gain = 1 ∨ gain = 2 →
      (Instr.dac8SetSingleGain channel gain).violated c = some .chanLimit) ∧
    (channel ≤ 3 → gain = 1 ∨ gain = 2 → (Instr.dac8SetSingleGain channel gain).violated c = none) := by
  rw [Instr.violated]
  refine ⟨fun h => if_pos h, fun h7 hg => ?badGain, fun h4 h7 hg => ?limit, fun h3 hg => ?accepted⟩
  case badGain => rw [if_neg (by omega), if_pos hg]
  case limit => rw [if_neg (by omega), if_neg (by omega), if_pos (by omega)]
  case accepted => rw [if_neg (by omega), if_neg (by omega), if_neg (by omega)]

/-- With accepted operands and the switch of D17 at its default, the command is the gain write of the byte with the
shifted bit. -/
theorem exec_dac8SetSingleGain_of_accepted (s : State) {channel gain : Nat} (hch : channel ≤ 3)
    (hgain : gain = 1 ∨ gain = 2) (hshadow : s.cfg.variants.singleGainUpdatesShadow = true) :
    exec (.dac8SetSingleGain channel gain) s =
      .next (s.gainWrite s.cfg.dac8Addr [s.cfg.dac8GainOpc ||| BitVec.ofNat 8 ((gain - 1) * 2 ^ (3 - channel))]
        (State.withDac8Gain gain)) := by
  obtain ⟨-, -, -, haccepted⟩ := violated_dac8SetSingleGain channel gain s.cfg
  have hchecks := (firstViolation_dac8SetSingleGain channel gain s.cfg).trans (haccepted hch hgain)
  rw [exec, execDac8SetSingleGain, guarded_of_accepted hchecks, if_pos hshadow, gainCmd8Single_eq]

/-- Settles O20: the first violation in the order of checking, or the gain write. -/
theorem dac8SetSingleGainRule : Obligations.Dac8SetSingleGainRule := by
  refine ⟨fun a b v => decode_commandWord 0x11#8 a b v, fun s channel gain t ht => ?_⟩
  subst ht
  obtain ⟨hchannel, hgain, hlimit, -⟩ := violated_dac8SetSingleGain channel gain s.cfg
  refine ⟨fun h => exec_of_violated (hchannel h), fun h7 hg => exec_of_violated (hgain h7 hg),
    fun h4 h7 hg => exec_of_violated (hlimit h4 h7 hg), fun h3 hg hshadow hok => ?ok,
    fun h3 hg hshadow hfail hc => ?fail⟩
  case ok =>
    rw [exec_dac8SetSingleGain_of_accepted s h3 hg hshadow, gainWrite_ok _ _ _ rfl (fun _ => rfl) hok]
    rfl
  case fail =>
    rw [exec_dac8SetSingleGain_of_accepted s h3 hg hshadow, gainWrite_fail _ _ _ rfl hc hfail]
    rfl

/-! #### DAC8.OUTPUTVOLTDC (41_dac8.md R92) -/

theorem channelCommand_eq (c : Config) {channel : Nat} (h : channel < 8) :
    channelCommand c channel = c.dac8ChCmd[channel] := by
  rw [channelCommand, Vector.getElem?_eq_getElem h, Option.getD_some]

/-- With an accepted channel and voltage the command is the write of the channel's frame. -/
theorem exec_dac8OutputVoltDc_of_accepted (s : State) {channel volt : Nat} (hch : channel < 8)
    (hvolt : volt ≤ s.cfg.dac8Vref.toNat) :
    exec (.dac8OutputVoltDc channel volt) s =
      .next (s.dacWrite s.cfg.dac8Addr [s.cfg.dac8ChCmd[channel], BitVec.ofNat 8 (s.dac8Code volt / 256),
        BitVec.ofNat 8 (s.dac8Code volt % 256)] id) := by
  have haccepted : (Instr.dac8OutputVoltDc channel volt).violated s.cfg = none := by
    rw [Instr.violated, if_neg (by omega), if_neg hvolt.not_gt]
  have hchecks := (firstViolation_dac8OutputVoltDc channel volt s.cfg).trans haccepted
  rw [exec, execDac8OutputVoltDc, guarded_of_accepted hchecks, channelCommand_eq _ hch, hi_eq, lo_eq]

/-- Settles O21: the code written out is that of the shadow gain, and the channel indexes its command byte. -/
theorem dac8OutputVoltDcRule : Obligations.Dac8OutputVoltDcRule := by
  refine ⟨fun a b v => decode_commandWord 0x12#8 a b v, fun s channel volt q code hq hcode => ?_⟩
  obtain rfl : code = s.dac8Code volt := by rw [hcode, hq]; rfl
  refine ⟨fun hch => exec_of_violated (st := .channel) (if_pos hch), fun hch hvolt => ?volt,
    fun hch t ht hvolt => ?_⟩
  case volt => exact exec_of_violated (st := .volt) ((if_neg hch.not_gt).trans (if_pos hvolt))
  subst ht
  rw [exec_dac8OutputVoltDc_of_accepted s hch hvolt]
  exact ⟨fun hok => congrArg Host.Outcome.next (dacWrite_ok _ _ id hok),
    fun hfail => congrArg Host.Outcome.next (dacWrite_fail _ _ id hfail)⟩

/-! #### DAC8.OUTPUTRESET and DAC2.OUTPUTRESET (41_dac8.md R93; 42_dac2.md R103) -/

/-- Settles O22: each command is one write of two zero bytes to its device, and no gain is committed. -/
theorem outputResetRules : Obligations.OutputResetRules := by
  refine ⟨fun a b v => ⟨decode_commandWord 0x13#8 a b v, decode_commandWord 0x23#8 a b v⟩,
    fun s t8 t2 ht8 ht2 => ?_⟩
  subst ht8 ht2
  exact ⟨fun hok => ⟨congrArg Host.Outcome.next (dacWrite_ok _ _ id hok),
      congrArg Host.Outcome.next (dacWrite_ok _ _ id hok)⟩,
    fun hfail => ⟨congrArg Host.Outcome.next (dacWrite_fail _ _ id hfail),
      congrArg Host.Outcome.next (dacWrite_fail _ _ id hfail)⟩⟩

end Sys2Proof.Machine
end

/-! ### 42_dac2.md: the 2-channel gain DAC's gain commands and its voltage output -/

section
namespace Sys2Proof.Machine

/-! #### DAC2.SETALLGAIN and DAC2.SETSINGLEGAIN (42_dac2.md R100, R101) -/

/-- The two bytes of GAINVAL2 are zero and the gain's mask (40_codec_functions.md R74, R77). -/
theorem dac2GainFrame_eq (c : Config) (gain : Nat) :
    dac2GainFrame c gain =
      [first2 c.dac2CmdGain c.dac2RegGain, 0x00#8, if gain = 2 then 0xFF#8 else 0x00#8] := by
  rw [dac2GainFrame, gainVal2]
  split <;> rfl

theorem exec_dac2SetSingleGain_eq_setAllGain (gain : Nat) (s : State) :
    exec (.dac2SetSingleGain gain) s = exec (.dac2SetAllGain gain) s := rfl

theorem violated_dac2SetAllGain_eq_none {gain : Nat} (c : Config) (h : gain = 1 ∨ gain = 2) :
    (Instr.dac2SetAllGain gain).violated c = none :=
  if_neg fun ⟨h1, h2⟩ => h.elim h1 h2

/-- With an accepted gain the command is the gain write of the family's frame. -/
theorem exec_dac2SetAllGain_of_accepted (s : State) {gain : Nat} (h : gain = 1 ∨ gain = 2) :
    exec (.dac2SetAllGain gain) s =
      .next (s.gainWrite s.cfg.dac2Addr
        [first2 s.cfg.dac2CmdGain s.cfg.dac2RegGain, 0x00#8, if gain = 2 then 0xFF#8 else 0x00#8]
        (State.withDac2Gain gain)) := by
  have hchecks := (firstViolation_dac2SetAllGain gain s.cfg).trans (violated_dac2SetAllGain_eq_none s.cfg h)
  rw [exec, execDac2SetAllGain, State.dac2WriteGain, guarded_of_accepted hchecks, dac2GainFrame_eq]

/-- Settles O23: both commands are DAC2.SETALLGAIN, for which a bad gain is the one violation and an accepted one makes
the gain write. -/
theorem dac2SetGainRules : Obligations.Dac2SetGainRules := by
  refine ⟨fun a b v => ⟨decode_commandWord 0x20#8 a b v, decode_commandWord 0x21#8 a b v⟩,
    fun s gain i t hi ht => ?_⟩
  have hexec : exec i s = exec (.dac2SetAllGain gain) s := by
    rcases hi with rfl | rfl
    · rfl
    · exact exec_dac2SetSingleGain_eq_setAllGain gain s
  subst ht
  rw [hexec]
  refine ⟨fun hbad => ?bad, fun hgain hok => ?ok, fun hgain hfail hc => ?fail⟩
  case bad => exact exec_of_violated (st := .gain) (if_pos hbad)
  case ok =>
    rw [exec_dac2SetAllGain_of_accepted s hgain, gainWrite_ok _ _ _ rfl (fun _ => rfl) hok]
    rfl
  case fail =>
    rw [exec_dac2SetAllGain_of_accepted s hgain, gainWrite_fail _ _ _ rfl hc hfail]
    rfl

/-! #### DAC2.OUTPUTVOLTDC (42_dac2.md R102) -/

/-- With an accepted channel and voltage the command is the write of the channel's frame. -/
theorem exec_dac2OutputVoltDc_of_accepted (s : State) {channel volt : Nat} (hch : channel ≤ 1)
    (hvolt : volt ≤ s.cfg.dac2Vref.toNat) :
    exec (.dac2OutputVoltDc channel volt) s =
      .next (s.dacWrite s.cfg.dac2Addr [first2 s.cfg.dac2CmdOut channel, BitVec.ofNat 8 (s.dac2Code volt / 256),
        BitVec.ofNat 8 (s.dac2Code volt % 256)] id) := by
  have haccepted : (Instr.dac2OutputVoltDc channel volt).violated s.cfg = none := by
    rw [Instr.violated, if_neg hch.not_gt, if_neg hvolt.not_gt]
  have hchecks := (firstViolation_dac2OutputVoltDc channel volt s.cfg).trans haccepted
  rw [exec, execDac2OutputVoltDc, guarded_of_accepted hchecks, hi_eq, lo_eq]

/-- Settles O24: the code written out is that of the shadow gain, and the frame is written once both checks hold. -/
theorem dac2OutputVoltDcRule : Obligations.Dac2OutputVoltDcRule := by
  refine ⟨fun a b v => decode_commandWord 0x22#8 a b v, fun s channel volt code t hcode ht => ?_⟩
  obtain rfl : code = s.dac2Code volt := hcode
  subst ht
  refine ⟨fun hch => exec_of_violated (st := .channel) (if_pos hch), fun hch hvolt => ?volt,
    fun hch hvolt hok => ?ok, fun hch hvolt hfail => ?fail⟩
  case volt => exact exec_of_violated (st := .volt) ((if_neg hch.not_gt).trans (if_pos hvolt))
  case ok =>
    rw [exec_dac2OutputVoltDc_of_accepted s hch hvolt, dacWrite_ok _ _ _ hok]
    rfl
  case fail => rw [exec_dac2OutputVoltDc_of_accepted s hch hvolt, dacWrite_fail _ _ _ hfail, busWrite]

end Sys2Proof.Machine
end

/-! ### 43_adc.md: the ADC's one command -/

section
namespace Sys2Proof.Machine

/-- The response with status OK: the sixteen bits above VALUE are zero (30_encoding.md R54). -/
theorem responseWord_ok (value : BitVec 48) : responseWord .ok value = 0#16 ++ value := rfl

theorem respond_eq (s : State) (value : BitVec 48) :
    s.respond value = { s with responses := s.responses ++ [0#16 ++ value] } := by
  rw [State.respond, responseWord_ok, State.deliver]

/-- The voltage of the two bytes in plain arithmetic, the code unmasked (40_codec_functions.md R79, R80). -/
theorem adcResult_pair (c : Config) (b0 b1 : Byte) :
    adcResult c [b0, b1] = BitVec.ofNat 48 ((256 * b0.toNat + b1.toNat) * c.adcVref.toNat / 4095) := by
  calc adcResult c [b0, b1]
    _ = zext48 (adcVolt (adcCode b0 b1) c.adcVref.toNat) := rfl
    _ = zext48 (adcVolt (256 * b0.toNat + b1.toNat) c.adcVref.toNat) := by rw [adcCode_eq]
    _ = BitVec.ofNat 48 ((256 * b0.toNat + b1.toNat) * c.adcVref.toNat / 4095) := by rw [zext48, adcVolt]

/-! #### ADC.READ, by the transport's answer to its one read (43_adc.md R110) -/

theorem exec_adcRead_ok {s : State} {rx : List Byte} (h : s.replyAt 2 0 = .ok rx) :
    exec .adcRead s = .next ((s.issued (busRead s.cfg.adcAddr 2) 1).respond (adcResult s.cfg rx)) := by
  rw [issued_one]
  exact congrArg Host.Outcome.next (exchange_ok s (busRead s.cfg.adcAddr 2) _ _ rx h)

theorem exec_adcRead_fail {s : State} (h : s.replyAt 2 0 = .fail) :
    exec .adcRead s = .next ((s.issued (busRead s.cfg.adcAddr 2) 1).abort .transport) := by
  rw [issued_one]
  exact congrArg Host.Outcome.next (exchange_fail s (busRead s.cfg.adcAddr 2) _ _ h)

/-- Settles O25: the read is issued once, and its answer decides between the voltage of the two bytes and E_TRANSPORT. -/
theorem adcReadRule : Obligations.AdcReadRule := by
  refine ⟨fun a b v => decode_commandWord 0x30#8 a b v, fun s t ht => ?_⟩
  obtain rfl : t = busRead s.cfg.adcAddr 2 := ht
  refine ⟨fun b0 b1 hok => ?ok, fun hfail => ?fail⟩
  case ok =>
    rw [exec_adcRead_ok hok, adcResult_pair, respond_eq]
    rfl
  case fail =>
    rw [exec_adcRead_fail hfail, abort_eq_ended]
    rfl

end Sys2Proof.Machine
end

/-! ### 44_temp.md: the temperature reads over TREAD, and the polling flag -/

section
namespace Sys2Proof.Machine

/-! #### TREAD's transaction (44_temp.md R116; 20_memory.md R37) -/

/-- In the ram bank TBANK is the mask of the register byte. -/
theorem tbank_ram_byte (reg : Byte) : tbank reg.toNat .ram = reg &&& 0x1F#8 := by
  apply BitVec.eq_of_toNat_eq
  rw [tbank_ram_toNat, BitVec.toNat_and]
  exact (Nat.and_two_pow_sub_one_eq_mod reg.toNat 5).symm

/-- The accepted register types are the numbers of the two banks. -/
theorem tbank_regTypeOf (a : Nat) {registerType : Nat} (h : registerType ≤ 1) :
    tbank a (regTypeOf registerType) = BitVec.ofNat 8 (a % 32 + 32 * registerType) := by
  apply BitVec.eq_of_toNat_eq
  rw [BitVec.toNat_ofNat]
  rcases Nat.le_one_iff_eq_zero_or_eq_one.mp h with rfl | rfl
  · rw [regTypeOf, if_pos rfl, tbank_ram_toNat]
    omega
  · rw [regTypeOf, if_neg one_ne_zero, tbank_eeprom_toNat]
    omega

theorem treadTransaction_ram (c : Config) (reg : Byte) :
    treadTransaction c reg.toNat .ram = ⟨.writeRead, BitVec.ofNat 7 c.tmpAddr, [reg &&& 0x1F#8], 3⟩ := by
  rw [treadTransaction, tbank_ram_byte, busWriteRead]

theorem treadTransaction_regTypeOf (c : Config) (a : Nat) {registerType : Nat} (h : registerType ≤ 1) :
    treadTransaction c a (regTypeOf registerType) =
      ⟨.writeRead, BitVec.ofNat 7 c.tmpAddr, [BitVec.ofNat 8 (a % 32 + 32 * registerType)], 3⟩ := by
  rw [treadTransaction, tbank_regTypeOf a h, busWriteRead]

/-! #### TREAD, by the transport's answers to its five attempts (44_temp.md R116) -/

/-- After `k` failures the answer's first two bytes are the temperature, and the third is dropped. -/
theorem tread_answered {s : State} (a : Nat) (type : RegType) (convert : Int → Int) {k : Nat} {low high pec : Byte}
    (hk : k ≤ 4) (hfail : ∀ j < k, s.replyAt 3 j = .fail) (hok : s.replyAt 3 k = .ok [low, high, pec]) :
    s.tread a type convert =
      { s.issued (treadTransaction s.cfg a type) (k + 1) with
        responses := s.responses ++ [0#16 ++ sext48 (convert (celsius (raw16 low high)))] } := by
  rw [State.tread, treadLoop_ok _ _ 5 k s _ (Nat.lt_succ_of_le hk) hfail hok, respond_eq]
  rfl

/-- After five failures the sentinel is the temperature, and ERRSTAT.SENT is set. -/
theorem tread_all_failed {s : State} (a : Nat) (type : RegType) (convert : Int → Int)
    (hfail : ∀ j < 5, s.replyAt 3 j = .fail) :
    s.tread a type convert =
      (s.issued (treadTransaction s.cfg a type) 5).ended 0x08#8 (0#16 ++ sext48 (convert sentinel)) := by
  rw [State.tread, treadLoop_all_fail _ _ 5 s hfail, respond_eq]
  rfl

/-! #### The values of the reads in 48 bits (40_codec_functions.md R81 to R86) -/

theorem celsius_pair (low high : Byte) :
    celsius (raw16 low high) = 20 * (256 * (high.toNat : Int) + low.toNat) - 273150 := by
  obtain ⟨-, hline, -⟩ := celsiusLine low high
  exact hline

theorem sext48_celsius_pair (low high : Byte) :
    sext48 (celsius (raw16 low high)) = BitVec.ofInt 48 (20 * (256 * (high.toNat : Int) + low.toNat) - 273150) := by
  have hge := celsius_ge (raw16 low high)
  have hle := celsius_le (raw16_lt low high)
  rw [sext48_eq _ (by omega) (by omega), celsius_pair]

theorem sext48_sentinel : sext48 sentinel = BitVec.ofInt 48 (-999000) := sext48_eq _ (by decide) (by decide)

/-- The sentinel is no temperature, so the switch of U4 leaves every answered read alone. -/
theorem fahrenheit_celsius (c : Config) (raw : Nat) : fahrenheit c (celsius raw) = c2f (celsius raw) := by
  have hne : celsius raw ≠ sentinel := by
    have hge := celsius_ge raw
    rw [sentinel]
    omega
  rw [fahrenheit, decide_eq_false hne, Bool.and_false]
  rfl

/-- Under the spec's default of the switch of U4 the sentinel is converted like any other value. -/
theorem fahrenheit_sentinel {c : Config} (h : c.variants.fSpecialCasesSentinel = false) :
    fahrenheit c sentinel = -1766200 := by
  rw [fahrenheit, h, Bool.false_and]
  exact c2f_sentinel

theorem sext48_fahrenheit_pair (c : Config) (low high : Byte) :
    sext48 (fahrenheit c (celsius (raw16 low high))) =
      BitVec.ofInt 48 (36 * (256 * (high.toNat : Int) + low.toNat) - 459670) := by
  have hlt := raw16_lt low high
  rw [fahrenheit_celsius, c2f_celsius, sext48_eq _ (by omega) (by omega), raw16_eq]
  push_cast
  rfl

/-- The tiers of CORRECT at a temperature, which stays in 32 bits under them. -/
theorem sext48_correct_celsius {raw : Nat} {c : Int} (hraw : raw < 65536) (hc : celsius raw = c) :
    sext48 (correct (celsius raw)) =
      BitVec.ofInt 48
        (if 82000 < c then c - 6000 else if 60000 < c then c - 4500 else if 40000 < c then c - 2000 else c) := by
  have hge := celsius_ge raw
  have hle := celsius_le hraw
  obtain ⟨hcorrectGe, hcorrectLe⟩ := correct_bounds (celsius raw)
  rw [sext48_eq _ (by omega) (by omega), hc]
  rfl

/-! #### TMP.READ (44_temp.md R117) -/

/-- With an accepted register type the command is TREAD of that bank. -/
theorem exec_tmpRead_of_accepted (s : State) (registerAddress : Nat) {registerType : Nat} (h : registerType ≤ 1) :
    exec (.tmpRead registerAddress registerType) s =
      .next (s.tread registerAddress (regTypeOf registerType) id) := by
  have haccepted : (Instr.tmpRead registerAddress registerType).violated s.cfg = none := if_neg h.not_gt
  have hchecks := (firstViolation_tmpRead registerAddress registerType s.cfg).trans haccepted
  exact congrArg Host.Outcome.next (guarded_of_accepted hchecks)

/-- Settles O26: a bad register type is the one violation, and an accepted one is read by TREAD. -/
theorem tmpReadRule : Obligations.TmpReadRule := by
  refine ⟨fun a b v => decode_commandWord 0x40#8 a b v, fun s registerAddress registerType t ht => ?_⟩
  refine ⟨fun hbad => exec_of_violated (st := .regType) (if_pos hbad),
    fun htype k low high pec hk hfail hok => ?answered, fun htype hfail => ?failed⟩ <;>
    rw [exec_tmpRead_of_accepted s registerAddress htype, ht, ← treadTransaction_regTypeOf s.cfg _ htype]
  case answered => rw [tread_answered _ _ id hk hfail hok, id, sext48_celsius_pair]
  case failed => rw [tread_all_failed _ _ id hfail, id, sext48_sentinel]

/-! #### The reads of the object and the ambient register (44_temp.md R120 to R124) -/

/-- Settles O27: both commands are TREAD of their register in the ram bank. -/
theorem celsiusReadRules : Obligations.CelsiusReadRules := by
  refine ⟨fun a b v => ⟨decode_commandWord 0x41#8 a b v, decode_commandWord 0x43#8 a b v⟩,
    fun s i reg t hi ht => ?_⟩
  have hexec : exec i s = .next (s.tread reg.toNat .ram id) := by
    rcases hi with ⟨rfl, rfl⟩ | ⟨rfl, rfl⟩ <;> rfl
  rw [hexec, ht, ← treadTransaction_ram]
  refine ⟨fun k low high pec hk hfail hok => ?answered, fun hfail => ?failed⟩
  case answered => rw [tread_answered _ _ id hk hfail hok, id, sext48_celsius_pair]
  case failed => rw [tread_all_failed _ _ id hfail, id, sext48_sentinel]

/-- Settles O28: both commands are TREAD of their register in the ram bank, converted to Fahrenheit. -/
theorem fahrenheitReadRules : Obligations.FahrenheitReadRules := by
  refine ⟨fun a b v => ⟨decode_commandWord 0x42#8 a b v, decode_commandWord 0x44#8 a b v⟩,
    fun s i reg t hi ht => ?_⟩
  have hexec : exec i s = .next (s.tread reg.toNat .ram (fahrenheit s.cfg)) := by
    rcases hi with ⟨rfl, rfl⟩ | ⟨rfl, rfl⟩ <;> rfl
  rw [hexec, ht, ← treadTransaction_ram]
  refine ⟨fun k low high pec hk hfail hok => ?answered, fun hfail hdefault => ?failed⟩
  case answered => rw [tread_answered _ _ _ hk hfail hok, sext48_fahrenheit_pair]
  case failed =>
    rw [tread_all_failed _ _ _ hfail, fahrenheit_sentinel hdefault, sext48_eq _ (by decide) (by decide)]

/-- Settles O29: TREAD of the object register, corrected by the tier of the uncorrected temperature; the sentinel is
below every tier. -/
theorem getObjRule : Obligations.GetObjRule := by
  refine ⟨fun a b v => decode_commandWord 0x45#8 a b v, fun s t ht => ?_⟩
  have hexec : exec .tmpGetObj s = .next (s.tread s.cfg.tmpRegObj.toNat .ram correct) := rfl
  rw [hexec, ht, ← treadTransaction_ram]
  refine ⟨fun k low high pec c hk hfail hok hc => ?answered, fun hfail => ?failed⟩
  case answered =>
    have hcelsius : celsius (raw16 low high) = c := (celsius_pair low high).trans hc.symm
    rw [tread_answered _ _ _ hk hfail hok, sext48_correct_celsius (raw16_lt low high) hcelsius]
  case failed =>
    have huncorrected : correct sentinel = sentinel := correct_of_le (by decide)
    rw [tread_all_failed _ _ _ hfail, huncorrected, sext48_sentinel]

/-! #### TMP.READSTART and TMP.READSTOP (44_temp.md R126, R127) -/

/-- Settles O30: each command writes the flag and responds with the value written. -/
theorem pollFlagRules : Obligations.PollFlagRules := by
  refine ⟨fun a b v => ⟨decode_commandWord 0x46#8 a b v, decode_commandWord 0x47#8 a b v⟩, fun s => ⟨?start, ?stop⟩⟩
  case start => exact congrArg Host.Outcome.next (respond_eq (s.withPollActive 1#1) 1#48)
  case stop => exact congrArg Host.Outcome.next (respond_eq (s.withPollActive 0#1) 0#48)

end Sys2Proof.Machine
end

/-! ### 60_exceptions.md: what a failure does, what a command can end with, the idle step, and the monitor's request -/

section
namespace Sys2Proof.Machine

/-! #### Precondition aborts (60_exceptions.md R132, R136) -/

/-- A response word with VALUE 0 has zero below STATUS (30_encoding.md R54). -/
theorem responseWord_zero (st : Status) : responseWord st 0#48 = st.code ++ 0#56 := by
  cases st <;> rfl

/-- Settles O31: the command aborts with its first violation, and every such status sets PRE. -/
theorem preconditionAbortChangesOnlyErrstat : Obligations.PreconditionAbortChangesOnlyErrstat := by
  intro i s st hviolated
  obtain ⟨-, hpre⟩ := violated_mem i s.cfg st hviolated
  rw [exec_of_violated hviolated, abort_eq_ended, hpre, responseWord_zero, bitPre]

/-! #### Transport failures (60_exceptions.md R133) -/

/-- The state after the shadow gain write that a gain command makes before its transaction (60_exceptions.md R133). -/
def State.gainCommitted (i : Instr) (s : State) : State :=
  match i with
  | .dac8SetAllGain gain | .dac8SetSingleGain _ gain => s.withDac8Gain gain
  | .dac2SetAllGain gain | .dac2SetSingleGain gain => s.withDac2Gain gain
  | .dac8OutputVoltDc _ _ | .dac8OutputReset | .dac2OutputVoltDc _ _ | .dac2OutputReset | .adcRead | .tmpRead _ _
  | .tmpReadObjC | .tmpReadObjF | .tmpReadAmbC | .tmpReadAmbF | .tmpGetObj | .tmpReadStart | .tmpReadStop => s

/-- Committing a gain touches no field but the two gains. -/
theorem gainCommitted_frame (i : Instr) (s : State) :
    (s.gainCommitted i).trace = s.trace ∧ (s.gainCommitted i).answers = s.answers ∧
      (s.gainCommitted i).errstat = s.errstat ∧ (s.gainCommitted i).responses = s.responses ∧
      (s.gainCommitted i).inFlight = s.inFlight ∧ (s.gainCommitted i).pollActive = s.pollActive := by
  cases i <;> exact ⟨rfl, rfl, rfl, rfl, rfl, rfl⟩

/-- An accepted DAC or ADC command whose transaction fails has committed its gain, issued the one transaction of its
row, and aborted with E_TRANSPORT. -/
theorem exec_of_transportFailure {i : Instr} {s : State} {sh : TransactionShape}
    (hshape : i.transactionShape s.cfg = some sh) (hkind : sh.kind ≠ .writeRead) (haccepted : i.violated s.cfg = none)
    (hfail : s.replyAt sh.rdlen 0 = .fail) (hdefault : s.cfg.variants = Variants.documented) :
    ∃ t, shapeOf t = sh ∧
      exec i s = .next (((s.gainCommitted i).issued t 1).ended 0x04#8 0x0700000000000000#64) := by
  have hcommit : s.cfg.variants.gainCommitBeforeWrite = true := by rw [hdefault]; rfl
  have hshadow : s.cfg.variants.singleGainUpdatesShadow = true := by rw [hdefault]; rfl
  cases i with
  | dac8SetAllGain gain =>
    cases hshape
    have hchecks := (firstViolation_dac8SetAllGain gain s.cfg).trans haccepted
    refine ⟨busWrite s.cfg.dac8Addr [gainCmd8All s.cfg.dac8GainOpc gain], rfl, congrArg Host.Outcome.next ?_⟩
    exact (guarded_of_accepted hchecks).trans (gainWrite_fail _ _ _ rfl hcommit hfail)
  | dac8SetSingleGain channel gain =>
    cases hshape
    have hchecks := (firstViolation_dac8SetSingleGain channel gain s.cfg).trans haccepted
    refine ⟨busWrite s.cfg.dac8Addr [gainCmd8Single s.cfg.dac8GainOpc channel gain], rfl, ?_⟩
    rw [exec, execDac8SetSingleGain, guarded_of_accepted hchecks, if_pos hshadow,
      gainWrite_fail _ _ _ rfl hcommit hfail]
    rfl
  | dac2SetAllGain gain | dac2SetSingleGain gain =>
    cases hshape
    have hchecks := (firstViolation_dac2SetAllGain gain s.cfg).trans haccepted
    refine ⟨busWrite s.cfg.dac2Addr (dac2GainFrame s.cfg gain), rfl, congrArg Host.Outcome.next ?_⟩
    exact (guarded_of_accepted hchecks).trans (gainWrite_fail _ _ _ rfl hcommit hfail)
  | dac8OutputVoltDc channel volt =>
    cases hshape
    have hchecks := (firstViolation_dac8OutputVoltDc channel volt s.cfg).trans haccepted
    refine ⟨busWrite s.cfg.dac8Addr [channelCommand s.cfg channel, hi (s.dac8Code volt), lo (s.dac8Code volt)], rfl,
      congrArg Host.Outcome.next ?_⟩
    exact (guarded_of_accepted hchecks).trans (dacWrite_fail _ _ id hfail)
  | dac2OutputVoltDc channel volt =>
    cases hshape
    have hchecks := (firstViolation_dac2OutputVoltDc channel volt s.cfg).trans haccepted
    refine ⟨busWrite s.cfg.dac2Addr [first2 s.cfg.dac2CmdOut channel, hi (s.dac2Code volt), lo (s.dac2Code volt)], rfl,
      congrArg Host.Outcome.next ?_⟩
    exact (guarded_of_accepted hchecks).trans (dacWrite_fail _ _ id hfail)
  | dac8OutputReset =>
    cases hshape
    exact ⟨busWrite s.cfg.dac8Addr [0x00#8, 0x00#8], rfl, congrArg Host.Outcome.next (dacWrite_fail _ _ id hfail)⟩
  | dac2OutputReset =>
    cases hshape
    exact ⟨busWrite s.cfg.dac2Addr [0x00#8, 0x00#8], rfl, congrArg Host.Outcome.next (dacWrite_fail _ _ id hfail)⟩
  | adcRead =>
    cases hshape
    exact ⟨busRead s.cfg.adcAddr 2, rfl, exec_adcRead_fail hfail⟩
  | tmpRead _ _ | tmpReadObjC | tmpReadObjF | tmpReadAmbC | tmpReadAmbF | tmpGetObj =>
    cases hshape
    exact absurd rfl hkind
  | tmpReadStart | tmpReadStop => cases hshape

/-- Settles O32: the next state is written out by `exec_of_transportFailure`, and its fields are read off. -/
theorem transportFailureIsReportedOnce : Obligations.TransportFailureIsReportedOnce := by
  intro i s sh hshape hkind haccepted hfail hdefault
  obtain ⟨t, ht, hexec⟩ := exec_of_transportFailure hshape hkind haccepted hfail hdefault
  obtain ⟨htrace, hanswers, herrstat, hresponses, hflight, hpoll⟩ := gainCommitted_frame i s
  refine ⟨t, _, ht, hexec, congrArg (· ++ [t]) htrace, congrArg (List.drop 1) hanswers,
    congrArg (· ||| 0x04#8) herrstat, congrArg (· ++ [_]) hresponses, hflight, hpoll, ?gain8, ?gain2⟩
  case gain8 => cases i <;> rfl
  case gain2 => cases i <;> rfl

/-! #### What a command can end with (60_exceptions.md R135; 30_encoding.md R54) -/

/-- Every row lists OK. -/
theorem ok_mem_canEndWith (i : Instr) : .ok ∈ i.canEndWith := by
  cases i <;> exact List.mem_cons_self

/-- What command `i` run from `s` delivered: nothing, or one response with a status of its row, and VALUE 0 unless that
is OK. -/
def DeliversOfRow (i : Instr) (s u : State) : Prop :=
  u.responses = s.responses ∨
  ∃ st v, st ∈ i.canEndWith ∧ u.responses = s.responses ++ [responseWord st v] ∧ (st ≠ .ok → v = 0#48)

theorem DeliversOfRow.of_ok {i : Instr} {s u : State} (v : BitVec 48)
    (h : u.responses = s.responses ++ [responseWord .ok v]) : DeliversOfRow i s u :=
  .inr ⟨.ok, v, ok_mem_canEndWith i, h, fun hne => absurd rfl hne⟩

theorem DeliversOfRow.of_abort {i : Instr} {s u : State} {st : Status} (hst : st ∈ i.canEndWith)
    (h : u.responses = s.responses ++ [responseWord st 0#48]) : DeliversOfRow i s u :=
  .inr ⟨st, 0#48, hst, h, fun _ => rfl⟩

theorem GainWritten.responses_eq {i : Instr} {s pre : State} (h : GainWritten i s pre) :
    pre.responses = s.responses := by
  rcases h with rfl | ⟨g, -, rfl, -⟩ | ⟨g, -, rfl, -⟩ <;> rfl

/-- However a bus command ends, what it delivers is of its row. -/
theorem BusEnded.deliversOfRow {i : Instr} {t : Transaction} {n : Nat} {pre u : State} (h : BusEnded i t n pre u) :
    DeliversOfRow i pre u := by
  rcases h with ⟨v, rfl⟩ | ⟨v, -, rfl⟩ | ⟨hrow, rfl⟩ | ⟨-, -, rfl⟩
  · exact .of_ok v rfl
  · exact .of_ok v rfl
  · exact .of_abort hrow rfl
  · exact .inl rfl

theorem exec_deliversOfRow (i : Instr) (s u : State) (h : exec i s = .next u) : DeliversOfRow i s u := by
  cases exec_inversion i s u h with
  | aborted st hviolated =>
    obtain ⟨hrow, -⟩ := violated_mem i s.cfg st hviolated
    exact .of_abort hrow rfl
  | flag b v _ => exact .of_ok v rfl
  | bus t n pre u _ _ _ hp hu =>
    have hdelivers := hu.deliversOfRow
    rwa [DeliversOfRow, hp.responses_eq] at hdelivers

/-- Settles O34: a command delivers one response, which is of its row, or it is silent. -/
theorem commandEndsWithAStatusOfItsRow : Obligations.CommandEndsWithAStatusOfItsRow := by
  intro i s u h
  rcases exec_responds_or_silent i s u h with ⟨hflight, word, hword⟩ | ⟨hsilent, t, hshape, hflight, hresponses⟩
  · rcases exec_deliversOfRow i s u h with hnone | ⟨st, v, hrow, hresponse, hvalue⟩
    · simp [hnone] at hword
    · exact .inl ⟨st, v, hrow, hresponse, hvalue, hflight⟩
  · exact .inr ⟨hsilent, t, hshape, hresponses, hflight⟩

/-! #### Illegal words and the idle step (60_exceptions.md R131, R149) -/

/-- Settles O44: a ready state takes the word, which runs as the abort with E_ILLEGAL. -/
theorem illegalWordOnlySetsIll : Obligations.IllegalWordOnlySetsIll := by
  intro s w rest e hready hinputs hdecode
  rw [step_command s w rest hready hinputs, runWord_of_decode_error w e _ hdecode, abort_eq_ended]
  rfl

/-- Settles O46: with no event listed the step only asks for readiness. -/
theorem idleHoldsState : Obligations.IdleHoldsState := by
  intro s hready hinputs
  rw [step, runNextInput, hinputs]
  exact whenReady_of_ready s _ hready

/-! #### The Polling Monitor's request (60_exceptions.md R146) -/

/-- POLL_ACTIVE reads 1 through the observation port exactly when the flag is set (10_state.md R21). -/
theorem readRegister_pollActive_eq_one_iff (s : State) : s.readRegister 2 = some 0x01#8 ↔ s.pollActive = 1#1 := by
  rw [State.readRegister, Option.some_inj]
  generalize s.pollActive = flag
  revert flag
  decide

theorem pollMonitorRequest_eq (s : State) :
    s.pollMonitorRequest = if s.pollActive = 1#1 then some (encode .tmpGetObj) else none :=
  if_congr (readRegister_pollActive_eq_one_iff s) rfl rfl

/-- Settles O59: the word requested is the encoding of TMP.GETOBJ. -/
theorem monitorAsksOnlyWhilePolling : Obligations.MonitorAsksOnlyWhilePolling := by
  intro s
  rw [pollMonitorRequest_eq]
  refine ⟨fun hset => ⟨_, if_pos hset, encodedCommandDecodesToItself .tmpGetObj rfl⟩, fun hclear => ?_⟩
  rw [hclear]
  exact if_neg (by decide)

end Sys2Proof.Machine
end

/-! ### 70_reset_and_hazards.md: silent transports, reset, and the hazard of the shared shadow gain -/

section
namespace Sys2Proof.Machine

/-! #### The step of a hung machine (70_reset_and_hazards.md R165) -/

theorem whenReady_of_inFlight {s : State} {t : Transaction} (go : Host.Outcome State Fault Refusal)
    (hcfg : s.cfg.failedCheck = none) (hflight : s.inFlight = some t) :
    s.whenReady go = .fault .transportNeverAnswers := by
  simp [State.whenReady, hcfg, hflight]

/-- Settles O47: every event but a reset waits for readiness, and a transaction in flight denies it. -/
theorem hungMachineIsStuckUntilReset : Obligations.HungMachineIsStuckUntilReset := by
  intro s t hcfg hflight hno
  obtain ⟨go, hstep⟩ := step_of_noReset s hno
  rw [hstep, whenReady_of_inFlight go hcfg hflight]

/-! #### Reset (70_reset_and_hazards.md R150; 10_state.md R22) -/

theorem runReset_of_wellFormed {c : Config} (s : State) (h : c.failedCheck = none) :
    runReset c s =
      .next { State.resetWith c with inputs := s.inputs, answers := s.answers, busCount := s.busCount } := by
  simp [runReset, h]

/-- Settles O48: a reset asks for no readiness, and all but the inputs, the answers and their count is as
`State.resetWith` has it. -/
theorem resetLoadsTheConfiguration : Obligations.ResetLoadsTheConfiguration := by
  intro s c rest hinputs hc
  have hstep := (step_reset s c rest hinputs).trans (runReset_of_wellFormed s.takeInput hc)
  exact ⟨_, hstep, rfl, rfl, rfl, rfl, rfl, rfl, rfl, rfl⟩

theorem resetWith_traceLegal (c : Config) : (State.resetWith c).TraceLegal := List.forall_mem_nil _

theorem resetWith_responsesLegal (c : Config) : (State.resetWith c).ResponsesLegal := List.forall_mem_nil _

theorem resetWith_ready {c : Config} (h : c.failedCheck = none) : (State.resetWith c).Ready := ⟨h, rfl⟩

/-- Settles O56: `State.reset` is a reset with EX1, which is well formed. -/
theorem resetHasLegalHistory : Obligations.ResetHasLegalHistory :=
  ⟨resetWith_traceLegal Config.ex1, resetWith_responsesLegal Config.ex1, resetWith_ready (by decide)⟩

/-! #### A command that is never answered (70_reset_and_hazards.md R165; log 5) -/

/-- `u` is `s` after command `i` wrote its gain, if any, and issued `k + 1` equal transactions of its row, the last of
which is still in flight. -/
def HungAfter (i : Instr) (s : State) (k : Nat) (u : State) : Prop :=
  ∃ t pre, i.transactionShape s.cfg = some (shapeOf t) ∧ GainWritten i s pre ∧ u = (pre.issued t (k + 1)).hang t

theorem GainWritten.pollActive_eq {i : Instr} {s pre : State} (h : GainWritten i s pre) :
    pre.pollActive = s.pollActive := by
  rcases h with rfl | ⟨g, -, rfl, -⟩ | ⟨g, -, rfl, -⟩ <;> rfl

theorem hungAfter_exchange {i : Instr} {s pre : State} {t : Transaction} (onOk : List Byte → State → State)
    (onFail : State → State) (hshape : i.transactionShape s.cfg = some (shapeOf t)) (hpre : GainWritten i s pre)
    (hnever : s.replyAt t.rdlen 0 = .never) : HungAfter i s 0 (pre.exchange t onOk onFail) := by
  refine ⟨t, pre, hshape, hpre, ?_⟩
  rw [exchange_never pre t onOk onFail ((hpre.replyAt_eq _ _).trans hnever), issued_one]

/-- The hung gain write has committed the gain under the spec's default of the switch of D18 only. -/
theorem hungAfter_gainWrite {i : Instr} {s : State} (addr : Nat) (bytes : List Byte) {commit : State → State}
    (hshape : i.transactionShape s.cfg = some (shapeOf (busWrite addr bytes))) (hcommit : GainWritten i s (commit s))
    (hnever : s.replyAt 0 0 = .never) : HungAfter i s 0 (s.gainWrite addr bytes commit) := by
  by_cases hc : s.cfg.variants.gainCommitBeforeWrite = true
  · rw [gainWrite_commitFirst s _ _ _ hc]
    exact hungAfter_exchange _ _ hshape hcommit hnever
  · rw [gainWrite_commitOnOk s _ _ _ hc]
    exact hungAfter_exchange _ _ hshape (.inl rfl) hnever

theorem hungAfter_tread {i : Instr} {s : State} {k : Nat} (a : Nat) (type : RegType) (convert : Int → Int)
    (hshape : i.transactionShape s.cfg = some (shapeOf (treadTransaction s.cfg a type))) (hk : k < 5)
    (hfail : ∀ j < k, s.replyAt 3 j = .fail) (hnever : s.replyAt 3 k = .never) :
    HungAfter i s k (s.tread a type convert) :=
  ⟨_, s, hshape, .inl rfl, treadLoop_never _ _ 5 k s hk hfail hnever⟩

/-- An accepted command runs its body, so it hangs where the body does. -/
theorem hungAfter_guarded {i : Instr} {s : State} {k : Nat} {checks : List (Option Status)} {body : State → State}
    (hchecks : firstViolation checks = i.violated s.cfg) (haccepted : i.violated s.cfg = none)
    (hbody : HungAfter i s k (body s)) : HungAfter i s k (s.guarded checks body) := by
  rwa [guarded_of_accepted (hchecks.trans haccepted)]

/-- The gain a command commits is one it accepts. -/
theorem gainWritten_gainCommitted {i : Instr} {s : State} (haccepted : i.violated s.cfg = none) :
    GainWritten i s (s.gainCommitted i) := by
  cases i with
  | dac8SetAllGain gain => exact .inr (.inl ⟨gain, gain_of_accepted gain s.cfg haccepted, rfl, .inl rfl⟩)
  | dac8SetSingleGain channel gain =>
    exact .inr (.inl ⟨gain, gain_of_accepted_single channel gain s.cfg haccepted, rfl, .inr ⟨channel, rfl⟩⟩)
  | dac2SetAllGain gain => exact .inr (.inr ⟨gain, gain_of_accepted gain s.cfg haccepted, rfl, .inl rfl⟩)
  | dac2SetSingleGain gain => exact .inr (.inr ⟨gain, gain_of_accepted gain s.cfg haccepted, rfl, .inr rfl⟩)
  | dac8OutputVoltDc _ _ | dac8OutputReset | dac2OutputVoltDc _ _ | dac2OutputReset | adcRead | tmpRead _ _
  | tmpReadObjC | tmpReadObjF | tmpReadAmbC | tmpReadAmbF | tmpGetObj | tmpReadStart | tmpReadStop => exact .inl rfl

/-- DAC and ADC commands: the one transaction of the row is never answered. -/
theorem exec_hungAfter_of_single {i : Instr} {s : State} {sh : TransactionShape}
    (hshape : i.transactionShape s.cfg = some sh) (haccepted : i.violated s.cfg = none)
    (hone : i.mostTransactions = 1) (hnever : s.replyAt sh.rdlen 0 = .never) :
    ∃ u, exec i s = .next u ∧ HungAfter i s 0 u := by
  have hgain := gainWritten_gainCommitted haccepted
  cases i with
  | dac8SetAllGain gain =>
    cases hshape
    exact ⟨_, rfl, hungAfter_guarded (firstViolation_dac8SetAllGain gain s.cfg) haccepted
      (hungAfter_gainWrite _ _ rfl hgain hnever)⟩
  | dac8SetSingleGain channel gain =>
    cases hshape
    refine ⟨_, rfl, hungAfter_guarded (firstViolation_dac8SetSingleGain channel gain s.cfg) haccepted
      (hungAfter_gainWrite _ _ rfl ?_ hnever)⟩
    split
    · exact hgain
    · exact .inl rfl
  | dac8OutputVoltDc channel volt =>
    cases hshape
    exact ⟨_, rfl, hungAfter_guarded (firstViolation_dac8OutputVoltDc channel volt s.cfg) haccepted
      (hungAfter_exchange _ _ rfl hgain hnever)⟩
  | dac2SetAllGain gain | dac2SetSingleGain gain =>
    cases hshape
    exact ⟨_, rfl, hungAfter_guarded (firstViolation_dac2SetAllGain gain s.cfg) haccepted
      (hungAfter_gainWrite _ _ rfl hgain hnever)⟩
  | dac2OutputVoltDc channel volt =>
    cases hshape
    exact ⟨_, rfl, hungAfter_guarded (firstViolation_dac2OutputVoltDc channel volt s.cfg) haccepted
      (hungAfter_exchange _ _ rfl hgain hnever)⟩
  | dac8OutputReset | dac2OutputReset | adcRead =>
    cases hshape
    exact ⟨_, rfl, hungAfter_exchange _ _ rfl hgain hnever⟩
  | tmpRead _ _ | tmpReadObjC | tmpReadObjF | tmpReadAmbC | tmpReadAmbF | tmpGetObj | tmpReadStart
  | tmpReadStop => cases hone

/-- The temperature reads: one of the five attempts is never answered. -/
theorem exec_hungAfter_of_retried {i : Instr} {s : State} {sh : TransactionShape} {k : Nat}
    (hshape : i.transactionShape s.cfg = some sh) (haccepted : i.violated s.cfg = none)
    (hfive : i.mostTransactions = 5) (hk : k < 5) (hfail : ∀ j < k, s.replyAt sh.rdlen j = .fail)
    (hnever : s.replyAt sh.rdlen k = .never) : ∃ u, exec i s = .next u ∧ HungAfter i s k u := by
  cases i with
  | tmpRead registerAddress registerType =>
    cases hshape
    exact ⟨_, rfl, hungAfter_guarded (firstViolation_tmpRead registerAddress registerType s.cfg) haccepted
      (hungAfter_tread _ _ _ rfl hk hfail hnever)⟩
  | tmpReadObjC | tmpReadObjF | tmpReadAmbC | tmpReadAmbF | tmpGetObj =>
    cases hshape
    exact ⟨_, rfl, hungAfter_tread _ _ _ rfl hk hfail hnever⟩
  | dac8SetAllGain _ | dac8SetSingleGain _ _ | dac8OutputVoltDc _ _ | dac8OutputReset | dac2SetAllGain _
  | dac2SetSingleGain _ | dac2OutputVoltDc _ _ | dac2OutputReset | adcRead | tmpReadStart | tmpReadStop => cases hfive

/-- A command issues no transaction, one, or five at most (20_memory.md R36). -/
theorem mostTransactions_cases (i : Instr) :
    i.mostTransactions = 0 ∨ i.mostTransactions = 1 ∨ i.mostTransactions = 5 := by
  cases i <;> simp [Instr.mostTransactions]

theorem exec_hungAfter {i : Instr} {s : State} {sh : TransactionShape} {k : Nat}
    (hshape : i.transactionShape s.cfg = some sh) (haccepted : i.violated s.cfg = none)
    (hk : k < i.mostTransactions) (hfail : ∀ j < k, s.replyAt sh.rdlen j = .fail)
    (hnever : s.replyAt sh.rdlen k = .never) : ∃ u, exec i s = .next u ∧ HungAfter i s k u := by
  rcases mostTransactions_cases i with hzero | hone | hfive
  · omega
  · obtain rfl : k = 0 := by omega
    exact exec_hungAfter_of_single hshape haccepted hone hnever
  · exact exec_hungAfter_of_retried hshape haccepted hfive (hfive ▸ hk) hfail hnever

/-- Settles O33: the hung state is written out by `HungAfter`, and a gain write before it touches none of the fields
read off here. -/
theorem silentTransportHangsTheCommand : Obligations.SilentTransportHangsTheCommand := by
  intro i s sh k hshape haccepted hk hfail hnever
  obtain ⟨u, hexec, t, pre, hrow, hpre, rfl⟩ := exec_hungAfter hshape haccepted hk hfail hnever
  obtain ⟨htrace, -, -⟩ := hpre.busFrame
  have ht : shapeOf t = sh := Option.some_inj.mp (hrow.symm.trans hshape)
  exact ⟨t, _, ht, hexec, rfl, congrArg (· ++ List.replicate (k + 1) t) htrace, hpre.responses_eq, hpre.errstat_eq,
    hpre.pollActive_eq⟩

/-! #### The one shadow gain of the eight channels (70_reset_and_hazards.md R159; 92_eei_decisions.md D17) -/

/-- An accepted gain is read back from the shadow register as it was written. -/
theorem dac8Code_of_gain {s : State} {gain : Nat} (volt : Nat) (hgain : gain = 1 ∨ gain = 2)
    (hs : s.dac8Gain = BitVec.ofNat 8 gain) : s.dac8Code volt = dacCode8 volt s.cfg.dac8Vref.toNat gain := by
  have hfits : gain < 2 ^ 8 := by omega
  rw [State.dac8Code, hs, BitVec.toNat_ofNat, Nat.mod_eq_of_lt hfits]

/-- A single-channel gain write answered Ok sets the shadow gain, adds one transaction to the trace, and consumes the
first of the answers to come. -/
theorem exec_dac8SetSingleGain_ok {s : State} {channel gain : Nat} (hch : channel ≤ 3) (hgain : gain = 1 ∨ gain = 2)
    (hshadow : s.cfg.variants.singleGainUpdatesShadow = true) (hok : s.replyAt 0 0 = .ok []) :
    ∃ t u, exec (.dac8SetSingleGain channel gain) s = .next u ∧ u.cfg = s.cfg ∧ u.dac8Gain = BitVec.ofNat 8 gain ∧
      u.trace = s.trace ++ [t] ∧ ∀ n k, u.replyAt n k = s.replyAt n (k + 1) := by
  have hexec := exec_dac8SetSingleGain_of_accepted s hch hgain hshadow
  rw [gainWrite_ok _ _ _ rfl (fun _ => rfl) hok, issued_one] at hexec
  generalize busWrite _ _ = t at hexec
  exact ⟨t, _, hexec, rfl, rfl, rfl, replyAt_issue s t⟩

/-- Settles O39: the output command runs in the state the gain write leaves, and its code is that of the gain in the
shadow register. -/
theorem singleGainReachesEveryChannel : Obligations.SingleGainReachesEveryChannel := by
  intro s channel gain out volt q code hout hch hgain hshadow hfirst hsecond hvolt hq hcode
  obtain ⟨first, u, hexec, hcfg, hwritten, htrace, hreply⟩ := exec_dac8SetSingleGain_ok hch hgain hshadow hfirst
  have hsent : u.dac8Code volt = code := by
    rw [dac8Code_of_gain volt hgain hwritten, hcfg, hcode, hq]
    rfl
  have hexecOut := exec_dac8OutputVoltDc_of_accepted u hout (hcfg.symm ▸ hvolt)
  rw [dacWrite_ok _ _ id ((hreply 0 0).trans hsecond), issued_one, hsent, hcfg] at hexecOut
  refine ⟨u, _, first, hexec, hexecOut, ?_⟩
  rw [State.deliver_trace, id, State.issue_trace, htrace, List.append_assoc]
  rfl

end Sys2Proof.Machine
end

/-! ### 92_eei_decisions.md D17, D18 and 93_implementation_defined.md U4: the optional switches off their defaults -/

section
namespace Sys2Proof.Machine

/-! #### What leaves both shadow gains as they are (60_exceptions.md R132, R133) -/

/-- Both shadow gains of `u` are those of `s` (10_state.md R13). -/
def SameGains (s u : State) : Prop := u.dac8Gain = s.dac8Gain ∧ u.dac2Gain = s.dac2Gain

/-- An abort touches no gain, so a command keeps the gains where its body does. -/
theorem sameGains_guarded {s : State} {checks : List (Option Status)} {body : State → State}
    (hbody : SameGains s (body s)) : SameGains s (s.guarded checks body) := by
  rcases guarded_cases s checks body with ⟨st, -, e⟩ | ⟨-, e⟩
  · rw [e]
    exact ⟨rfl, rfl⟩
  · rwa [e]

/-- Only an Ok answer runs the register write of a DAC command. -/
theorem sameGains_dacWrite_of_not_ok {s : State} (addr : Nat) (bytes : List Byte) (onOk : State → State)
    (hreply : s.replyAt 0 0 ≠ .ok []) : SameGains s (s.dacWrite addr bytes onOk) := by
  rcases dacWrite_cases s addr bytes onOk with ⟨hok, -⟩ | ⟨-, e⟩ | ⟨-, e⟩
  · exact absurd hok hreply
  · rw [e]
    exact ⟨rfl, rfl⟩
  · rw [e]
    exact ⟨rfl, rfl⟩

theorem sameGains_dacWrite_id (s : State) (addr : Nat) (bytes : List Byte) :
    SameGains s (s.dacWrite addr bytes id) := by
  rcases dacWrite_cases s addr bytes id with ⟨-, e⟩ | ⟨-, e⟩ | ⟨-, e⟩ <;> rw [e] <;> exact ⟨rfl, rfl⟩

/-! #### GAIN_COMMIT_BEFORE_WRITE false (92_eei_decisions.md D18; log 11) -/

theorem sameGains_gainWrite_of_not_ok {s : State} (addr : Nat) (bytes : List Byte) (commit : State → State)
    (hswitch : s.cfg.variants.gainCommitBeforeWrite = false) (hreply : s.replyAt 0 0 ≠ .ok []) :
    SameGains s (s.gainWrite addr bytes commit) := by
  rw [gainWrite_commitOnOk s addr bytes commit (ne_true_of_eq_false hswitch)]
  exact sameGains_dacWrite_of_not_ok addr bytes commit hreply

/-- Settles O40: each of the four commands is one gain write under its checks, and that write commits on Ok only. -/
theorem gainCommittedOnSuccessOnly : Obligations.GainCommittedOnSuccessOnly := by
  intro s u i gain channel hi hswitch hreply h
  rcases hi with rfl | rfl | rfl | rfl <;> cases h <;>
    exact sameGains_guarded (sameGains_gainWrite_of_not_ok _ _ _ hswitch hreply)

/-! #### SINGLEGAIN_UPDATES_SHADOW false (92_eei_decisions.md D17; log 11) -/

/-- A gain write with nothing to commit is the plain write, under either setting of the switch of D18. -/
theorem gainWrite_id (s : State) (addr : Nat) (bytes : List Byte) :
    s.gainWrite addr bytes id = s.dacWrite addr bytes id := by
  rw [gainWrite_eq, id, ite_self]

/-- Settles O41: with the switch false the single-channel write has nothing to commit. -/
theorem singleGainLeavesShadowAlone : Obligations.SingleGainLeavesShadowAlone := by
  intro s u channel gain hswitch h
  cases h
  refine sameGains_guarded ?_
  rw [hswitch, if_neg Bool.false_ne_true, gainWrite_id]
  exact sameGains_dacWrite_id s _ _

/-! #### F_SPECIAL_CASES_SENTINEL true (93_implementation_defined.md U4; log 11) -/

theorem fahrenheit_sentinel_specialCased {c : Config} (h : c.variants.fSpecialCasesSentinel = true) :
    fahrenheit c sentinel = sentinel := by
  rw [fahrenheit, h, decide_eq_true rfl]
  rfl

/-- Settles O42: after five failures TREAD's result is the sentinel, which the switch keeps from being converted. -/
theorem fahrenheitSpecialCaseReturnsSentinel : Obligations.FahrenheitSpecialCaseReturnsSentinel := by
  intro s i hi hswitch hfail
  obtain ⟨reg, hexec⟩ : ∃ reg, exec i s = .next (s.tread reg .ram (fahrenheit s.cfg)) := by
    rcases hi with rfl | rfl <;> exact ⟨_, rfl⟩
  rw [tread_all_failed _ _ _ hfail, fahrenheit_sentinel_specialCased hswitch, sext48_sentinel] at hexec
  exact ⟨_, hexec, rfl, rfl⟩

end Sys2Proof.Machine
end
